-- ==== Sys2Proof/Word.lean ====
section
/-! DEFINITION. The words of the memory bus and of the register port (12_the_common_area.md, sections 12.2 and 12.7): bytes,
16-bit halves and 32-bit words. Everything the 2210 counts, measures or names by number is a `Nat` (or an `Int` where it has a
sign); bit vectors stand only where the spec numbers bits. -/

namespace Sys2Proof

/-- One byte of host memory. -/
abbrev Byte := BitVec 8

/-- A 16-bit field of the common area. -/
abbrev Half := BitVec 16

/-- A 32-bit register or a 32-bit field of the common area. -/
abbrev Word := BitVec 32

end Sys2Proof
end

