-- ==== Sys2Proof/Syntax.lean ====
section
/-! DEFINITION. The commands of the 2210: one constructor of `Instr` for each row of spec/opcode_table.json, with the operands
the rules give it. A command is a beam note, an event at a pin or a timer, an internal step that the table lists on its own, a
request of the host's, or a write of a register. -/

namespace Sys2Proof

/-- The two pen channels (section 2.1 of 00_scope.md). -/
inductive Chan where
  | a
  | b
deriving DecidableEq, Repr

/-- The four tables the Table Loader reads, in the order of the status section (R181). -/
inductive TableId where
  | config
  | group
  | view
  | menu
deriving DecidableEq, Repr

/-- The fields of a VECTOR BEGIN note, as wide as the link can carry them (table of section 1.1 of 01_the_beam_trail.md). -/
structure VectorNote where
  tag : BitVec 16
  group : BitVec 6
  index : BitVec 12
  x0 : BitVec 13
  y0 : BitVec 13
  x1 : BitVec 13
  y1 : BitVec 13
deriving DecidableEq, Repr

/-- The fields of the request cell but for the request code (header table of section 12.2 of 12_the_common_area.md). -/
structure RequestArgs where
  seq : BitVec 8
  channel : BitVec 8
  first : BitVec 16
  second : BitVec 32
deriving DecidableEq, Repr

/-- The kinds of access the 2210 makes to the common area (R183). -/
inductive BusAccess where
  | formatRead
  | revisionRead (t : TableId)
  | tableRead (t : TableId)
  | requestRead
  | statusWrite
  | slotRead
  | slotWrite
deriving DecidableEq, Repr

/-- Which access a bus error meets. `ahead` is 0 for an access in flight at the command, and n for the n-th access of that kind
that the part makes after it; `words` is the number of words of a status or slot write that reached memory before the word
that met the error. -/
structure BusError where
  access : BusAccess
  ahead : Nat
  words : Nat
deriving DecidableEq, Repr

/-- The commands of the block. -/
inductive Instr where
  | frameStart
  | vectorBegin (v : VectorNote)
  | vectorEnd
  | frameEnd
  | frameClockSaturation
  | strike (c : Chan)
  | lineLeavesActiveLevel (c : Chan)
  | glareOnset (c : Chan)
  | glareReminder (c : Chan)
  | echoDelivery (c : Chan)
  | switchInputChange (input : Fin 8) (pressed : Bool)
  | debounceCompletion (input : Fin 8)
  | idleTimeout
  | miss (c : Chan)
  | askDecision
  | lost (c : Chan)
  | tooFew (c : Chan)
  | confirmExpiry (c : Chan)
  | blinkPeriodEnd
  | readEnd (t : TableId)
  | lockGroup (r : RequestArgs)
  | unlockGroup (r : RequestArgs)
  | lockAll (r : RequestArgs)
  | unlockAll (r : RequestArgs)
  | claim (r : RequestArgs)
  | release (r : RequestArgs)
  | suspendTrack (r : RequestArgs)
  | resumeTrack (r : RequestArgs)
  | calibrate (r : RequestArgs)
  | cancelCalibration (r : RequestArgs)
  | openSheet (r : RequestArgs)
  | homeMenu (r : RequestArgs)
  | collect (r : RequestArgs)
  | endCollection (r : RequestArgs)
  | injectStrike (r : RequestArgs)
  | unknownRequest (code : BitVec 8) (r : RequestArgs)
  | attentionWrite
  | runSet (value : Word)
  | stop (value : Word)
  | softReset (value : Word)
  | interruptEnablesWrite (value : Word)
  | statusWrite (value : Word)
  | areaBaseWrite (value : Word)
  | powerOnReset
  | busError (e : BusError)
deriving DecidableEq, Repr

end Sys2Proof
end

