-- ==== Sys2Proof/Decode.lean ====
section
/-! DEFINITION. Reading a command from table bits. spec/opcode_table.json gives no row a fixed bit or a field (its rows are
events, notes, requests and register writes, each with an empty list of fields), so no word spells a command. Requests do have
bytes, in the request cell: Machine/Requests.lean reads them from host memory. -/

namespace Sys2Proof

/-- The command a word of `nbits` bits spells by the table's bits: none, since the table gives no row any bits. -/
def decodeTableWord (_nbits _w : Nat) : Option Instr := none

end Sys2Proof
end

