-- ==== Sys2Proof/Config.lean ====
section
/-! DEFINITION. What the 2210's manual fixes once for every part (the constants of its conventions and ranges), and the free
values: points the manual leaves open in every run. A free value is an opaque constant without a body; the step applies it to
`State.choices`, a counter that the model advances, so that nothing can be proved about which way it falls. -/

namespace Sys2Proof.Config

/-- The last value of the frame clock, in ticks of 25 ns (R3). -/
def clockMax : Nat := 16777215

/-- The most entries the trail holds (R10). -/
def trailMax : Nat := 32

/-- The most strikes a channel takes in one frame (R23). -/
def strikesMax : Nat := 4

/-- The most entries of a qualification table (R85). -/
def tableMax : Nat := 4

/-- The most entries of the Claim Table (R124). -/
def claimsMax : Nat := 8

/-- The most records of one source that wait for a free slot (R165). -/
def holdMax : Nat := 4

/-- The most sheets on a channel's menu stack (R108). -/
def stackMax : Nat := 4

/-- The measurements that finish a calibration (R39). -/
def measuresMax : Nat := 8

/-- The frame ends a calibration may use (R36). -/
def calibrationFrames : Nat := 32

/-- The largest spread of the measurements of a calibration that is SET (R40). -/
def spreadMax : Nat := 64

/-- The reach of a measurement back from a strike, in ticks (R37). -/
def measureReach : Nat := 511

/-- Frame ends between two glare reminders (R27). -/
def reminderFrames : Nat := 64

/-- The end of the counters the spec stops at 65535 (R27, R137). -/
def countMax : Nat := 65535

/-- The magnitude at which loft coordinates saturate, in millimetres (R62). -/
def loftMax : Int := 2000000

/-- Periods of the tick clock in one microsecond (section 3.3 of 00_scope.md). -/
def ticksPerMicro : Nat := 40

/-- Periods of the tick clock in one millisecond. DESIGN CHOICE (log entry 5): the spec gives the millisecond reference its own
connection and does not tie it to the tick clock. -/
def ticksPerMilli : Nat := 40000

/-- FREE VALUE (log entry 3). Whether, where the work of the two channels comes to one moment, channel B's work is done before
channel A's: R9 lets the records of the two channels reach the Log Writer in either order. -/
opaque channelBFirst : Nat → Bool

/-- FREE VALUE (log entry 6). How many bytes of a table the Table Loader has read by the moment a write of the host's lands in
memory: R173 and R174 say that a read runs through any number of events and may take a mixed copy, not how fast it goes. -/
opaque readProgress : Nat → Nat

/-- FREE VALUE (log entry 2). Whether, where something from outside and an event of the part's own timers come to one moment, the
one from outside is taken first: R16, R25, R30, R144, R149 and R174 leave the order of two such arrivals open. -/
opaque arrivalFirst : Nat → Bool

/-- FREE VALUE (log entry 31). Which of several events of the part's own timers that come at one moment is taken first, as a position
among them: R149, R150 and section 11.2 leave the order open, and R30 gives none. -/
opaque timerFirst : Nat → Nat

end Sys2Proof.Config
end

