-- ==== Sys2Proof/Machine/State.lean ====
section
/-! DEFINITION. The state of the 2210 as plain data: every register, table, queue, counter, mode and pin that spec/ gives the
part, grouped by the block that owns it (section 2.1 of 00_scope.md), the commands that wait, and the state after power-on
reset. A value that a rule says follows from others (a held flag, the remaining part of a hold, the interrupt line, the values
on the feedback link) is stored once and computed where it is read. -/

namespace Sys2Proof.Machine

/-- One value for each pen channel. -/
structure Pair (α : Type) where
  a : α
  b : α
deriving DecidableEq, Repr

/-- One value for each of the four tables, in the order of the status section (R181). -/
structure Quad (α : Type) where
  config : α
  group : α
  view : α
  menu : α
deriving DecidableEq, Repr

/-- A display point (section 3.2 of 00_scope.md). -/
structure Point where
  x : Nat
  y : Nat
deriving DecidableEq, Repr

/-- A loft point in millimetres (section 3.2 of 00_scope.md). -/
structure LoftPoint where
  x : Int
  y : Int
deriving DecidableEq, Repr

/-! ### The Control Registers (R172, R177, R182) -/

/-- The device states of section 12.4 of 12_the_common_area.md. -/
inductive DeviceState where
  | stopped
  | loading
  | running
  | halted
deriving DecidableEq, Repr

/-- The fault kinds of the STATUS register (section 12.7 of 12_the_common_area.md). -/
inductive FaultKind where
  | none
  | busError
  | format
deriving DecidableEq, Repr

/-- One flag for each interrupt cause, in the order of bits 4 to 7 of CONTROL and STATUS (section 12.7). -/
structure Causes where
  log : Bool
  request : Bool
  load : Bool
  fault : Bool
deriving DecidableEq, Repr

/-- The lost flags of STATUS, bits 12 to 14 (R166). -/
structure Lost where
  a : Bool
  b : Bool
  console : Bool
deriving DecidableEq, Repr

/-- The registers of section 12.7 of 12_the_common_area.md. SOFT RESET reads 0 and is not stored. -/
structure Registers where
  areaBase : Word
  run : Bool
  enables : Causes
  causes : Causes
  faultKind : FaultKind
  lost : Lost
  device : DeviceState
deriving DecidableEq, Repr

/-! ### The Beam Trail (R1 to R17) -/

/-- A trail entry (R10); `ended` is absent while the vector is still being drawn. -/
structure Entry where
  tag : Nat
  group : Nat
  index : Nat
  start : Point
  finish : Point
  begun : Nat
  ended : Option Nat
deriving DecidableEq, Repr

/-- The Beam Trail's state (table at the head of 01_the_beam_trail.md); the trail stands oldest first. -/
structure Beam where
  isOpen : Bool
  clock : Nat
  frame : Nat
  trail : List Entry
  dropped : Bool
  overLong : Bool
deriving DecidableEq, Repr

/-! ### The pen channels (R18 to R67, R83 to R104, R124 to R143) -/

/-- The channel states (section 2.1 of 02_strike_lines_and_glare.md). -/
inductive Mode where
  | off
  | watch
  | pressed
  | calibrating
  | tracking
  | suspended
  | glare
deriving DecidableEq, Repr

/-- A pending strike: its compensated time, window end and ECHO flag (R66). -/
structure Strike where
  tc : Nat
  h : Nat
  echo : Bool
deriving DecidableEq, Repr

/-- The fields of a RESOLVED result (R46). -/
structure Hit where
  group : Nat
  tag : Nat
  index : Nat
  p : Nat
  point : Point
  offset : Nat
  start : Point
deriving DecidableEq, Repr

/-- The four kinds of strike result (R46). -/
inductive Verdict where
  | resolved (h : Hit)
  | blank
  | forbidden
  | trailShort
deriving DecidableEq, Repr

/-- A strike result with its ECHO flag (R46). -/
structure StrikeResult where
  verdict : Verdict
  echo : Bool
deriving DecidableEq, Repr

/-- A sighting (R84). -/
structure Sighting where
  point : Point
  index : Nat
  p : Nat
  offset : Nat
  echo : Bool
deriving DecidableEq, Repr

/-- An entry of a qualification table (R85); the history stands oldest first and an absence is `none`. -/
structure Qual where
  group : Nat
  tag : Nat
  history : List (Option Sighting)
  fired : Bool
deriving DecidableEq, Repr

/-- The echo strike of a channel (table at the head of 02_strike_lines_and_glare.md). -/
inductive Echo where
  | none
  | scheduled (t : Nat)
  | due (t : Nat)
deriving DecidableEq, Repr

/-- The two roles of a pen switch input (R90). -/
inductive Role where
  | tip
  | foot
deriving DecidableEq, Repr

/-- The press record (R91): the pressing input and the press time. -/
structure Press where
  role : Role
  frame : Nat
  clock : Nat
deriving DecidableEq, Repr

/-- The window stages (R92), least far first. -/
inductive Stage where
  | noStrike
  | blank
  | trailShort
  | forbidden
  | unconfirmed
deriving DecidableEq, Repr

/-- An active collection (R101, R102). -/
structure Collection where
  requested : Nat
  remaining : Nat
  tags : List Nat
deriving DecidableEq, Repr

/-- Trigger of a pick (R97). -/
inductive Trigger where
  | tip
  | foot
  | sight
deriving DecidableEq, Repr

/-- A pick (R97). -/
structure Pick where
  group : Nat
  tag : Nat
  point : Point
  index : Nat
  p : Nat
  sightings : Nat
  trigger : Trigger
  echo : Bool
deriving DecidableEq, Repr

/-- The outcomes of a calibration (section 3.2 of 03_pen_delay_and_calibration.md). -/
inductive CalOutcome where
  | set
  | unsteady
  | tooFew
  | cancelled
  | glare
  | disabled
deriving DecidableEq, Repr

/-- A measurement of a calibration with its ECHO flag (R38). -/
structure Measure where
  ticks : Nat
  echo : Bool
deriving DecidableEq, Repr

/-- A pen channel: the state tables at the heads of 02, 03, 06 and 08. `windowFrames`, the frame ends of the press window so
far, is what the MISS record reports as its frames (R100). -/
structure Channel where
  mode : Mode
  lineHigh : Bool
  glareTimer : Option Nat
  strikes : Nat
  pendingStrikes : List Strike
  results : List StrikeResult
  glareFrames : Nat
  reminders : Nat
  reminderPhase : Nat
  echo : Echo
  delay : Nat
  cableClass : Option Nat
  delayOverride : Option Nat
  dotTag : Option Nat
  measures : List Measure
  measured : Bool
  budget : Nat
  lastCal : Option (CalOutcome × Nat)
  table : List Qual
  windowCount : Nat
  windowFrames : Nat
  press : Option Press
  stage : Stage
  windowResults : Nat
  windowEcho : Bool
  collection : Option Collection
  tracked : Option (Nat × Nat)
  centre : Point
  loss : Nat
  duration : Nat
  echoInCentre : Bool
deriving DecidableEq, Repr

/-! ### The four tables (R72, R105, R176 and section 12.2 of 12_the_common_area.md) -/

/-- The configured strike edge (R21). -/
inductive Edge where
  | rising
  | falling
deriving DecidableEq, Repr

/-- The trigger source (R90). -/
inductive TriggerSource where
  | tip
  | foot
  | either
deriving DecidableEq, Repr

/-- The direction of a guard span (R74). -/
inductive GuardDir where
  | none
  | upper
  | lower
  | all
deriving DecidableEq, Repr

/-- The contest outcome (R131). -/
inductive ContestRule where
  | pickOnly
  | refuse
deriving DecidableEq, Repr

/-- One channel's block of the configuration table (section 12.2). -/
structure ChannelConfig where
  enable : Bool
  cableClass : Nat
  edge : Edge
  trigger : TriggerSource
  delayOverride : Nat
  aperture : Nat
  glareThreshold : Nat
  m : Nat
  k : Nat
  pressWindow : Nat
  buttonsOnSight : Bool
  home : Nat
  guardDir : GuardDir
  guardExp : Nat
  startLocked : Bool
  contest : ContestRule
  lossLimit : Nat
  armLength : Nat
  tip : Option (Fin 8)
  foot : Option (Fin 8)
deriving DecidableEq, Repr

/-- The wake and report flags of one kind of event (R150). -/
structure WakeReport where
  wake : Bool
  report : Bool
deriving DecidableEq, Repr

/-- The configuration table (section 12.2). -/
structure Configuration where
  chans : Pair ChannelConfig
  debounce : Nat
  reportMask : BitVec 8
  period : Nat
  onCount : Nat
  confirmTimeout : Nat
  strikeGate : WakeReport
  penGate : WakeReport
  consoleGate : WakeReport
  idleSeconds : Nat
deriving DecidableEq, Repr

/-- An entry of the group table (R72). -/
structure GroupEntry where
  pickClass : Nat
  draggable : Bool
  view : Option Nat
deriving DecidableEq, Repr

/-- An entry of the view table (R62). -/
structure ViewEntry where
  dx : Nat
  dy : Nat
  ox : Int
  oy : Int
  sx : Int
  sy : Int
deriving DecidableEq, Repr

/-- The button kinds (R105); a button of no kind holds none. -/
inductive ButtonKind where
  | command
  | openSheet
  | back
  | toggle
  | choice
deriving DecidableEq, Repr

/-- A button record with the inert marking of R107. -/
structure Button where
  tag : Nat
  kind : Option ButtonKind
  code : Nat
  target : Nat
  confirm : Bool
  initialOn : Bool
  inert : Bool
deriving DecidableEq, Repr

/-- A sheet record of the menu table (R105). -/
structure Sheet where
  modal : Bool
  initialChoice : Option Nat
  buttons : List Button
deriving DecidableEq, Repr

/-- The installed tables. Without an installed configuration the values of R152, R156 and R161 are in use. -/
structure Tables where
  config : Option Configuration
  groups : List GroupEntry
  views : List ViewEntry
  sheets : List Sheet
deriving DecidableEq, Repr

/-- The validated copy of one table (R176). -/
inductive TableData where
  | config (c : Configuration)
  | group (g : List GroupEntry)
  | view (v : List ViewEntry)
  | menu (m : List Sheet)
deriving DecidableEq, Repr

/-- The load state of a table (section 12.3): IDLE, READING with the revision read at the start and the bytes read so far, or
WAITING with the validated copy, its revision and its count of defaulted fields. -/
inductive Load where
  | idle
  | reading (revision : Word) (got : List Byte)
  | waiting (revision : Word) (copy : TableData) (defaulted : Nat)
deriving DecidableEq, Repr

/-- The last load outcome (R176). -/
structure LoadOutcome where
  frame : Nat
  installed : Quad Bool
  revisions : Quad Word
  counts : Quad Nat
deriving DecidableEq, Repr

/-- The Table Loader: the installed tables, their revisions, the load states and the last load outcome (section 12.3). -/
structure Loader where
  tables : Tables
  revisions : Quad (Option Word)
  loads : Quad Load
  outcome : LoadOutcome
deriving DecidableEq, Repr

/-! ### The Menu Engine, the Claim Table, the Console Switch Unit, the Idle Monitor and the Feedback Unit -/

/-- One channel's part of the Menu Engine (table at the head of 07_light_button_menus.md). The stack stands bottom first;
`toggles` holds, for each installed sheet, one flag for each of its buttons (only those of TOGGLE buttons are ever set or
read); `choices` holds one selection for each installed sheet; `armed` is a sheet and a button index. -/
structure Menu where
  stack : List Nat
  home : Nat
  toggles : List (List Bool)
  choices : List (Option Nat)
  armed : Option (Nat × Nat)
  countdown : Nat
deriving DecidableEq, Repr

/-- The holder of a claim (R124). -/
inductive Holder where
  | pen (c : Chan)
  | program
deriving DecidableEq, Repr

/-- An entry of the Claim Table (R124). -/
structure Claim where
  tag : Nat
  holder : Holder
deriving DecidableEq, Repr

/-- An ask (R129): the pick that asks for its tag, and its press time. -/
structure Ask where
  pick : Pick
  press : Press
deriving DecidableEq, Repr

/-- The Claim Table (table at the head of 08_tracking_and_claims.md). -/
structure ClaimTable where
  entries : List Claim
  asks : Pair (Option Ask)
  atClose : Option (List Claim)
deriving DecidableEq, Repr

/-- A console switch input: the raw pin, the debounced level (the held flag is set exactly while it is PRESSED) and the
debounce timer in milliseconds (R144). -/
structure Switch where
  raw : Bool
  level : Bool
  timer : Option Nat
deriving DecidableEq, Repr

/-- The Idle Monitor (R149): DIM or AWAKE, and the idle timer in milliseconds. -/
structure Idle where
  dim : Bool
  timer : Nat
deriving DecidableEq, Repr

/-- The Feedback Unit's own state (table at the head of 10_display_feedback.md): the highlight entries, the blink count while
the generator is RUNNING, the period and on-count in use, and the pending ones. -/
structure Feedback where
  entry : Pair (Option (Nat × Nat))
  blink : Option Nat
  period : Nat
  onCount : Nat
  waiting : Option (Nat × Nat)
deriving DecidableEq, Repr

/-! ### The Log Writer and the Request Handler -/

/-- The source of a record (section 11.2 of 11_the_pick_log.md). -/
inductive Source where
  | chan (c : Chan)
  | console
deriving DecidableEq, Repr

/-- The notes a record can carry (R168). -/
structure Notes where
  echo : Bool := false
  contested : Bool := false
  noTrack : Bool := false
  again : Bool := false
  edge : Bool := false
deriving DecidableEq, Repr

/-- The reasons of a MISS record (R100). -/
inductive MissReason where
  | stage (g : Stage)
  | glare
  | contested
deriving DecidableEq, Repr

/-- The outcomes of a MENU record (R116). -/
inductive MenuOutcome where
  | fired
  | armed
  | depth
  | atHome
  | disarmed
deriving DecidableEq, Repr

/-- The causes of a DISARMED record (R115). -/
inductive DisarmCause where
  | pick
  | expired
  | stack
  | home
  | install
deriving DecidableEq, Repr

/-- The reasons of a TRACK END record (R138). -/
inductive EndReason where
  | dropped
  | lost
  | glare
  | released
  | disabled
deriving DecidableEq, Repr

/-- The outcomes of a SEQUENCE END record (R103). -/
inductive SeqOutcome where
  | complete
  | ended
  | aborted
deriving DecidableEq, Repr

/-- The state field of a MENU record (R116): absent, a toggle state, or a selection. -/
inductive ButtonState where
  | absent
  | toggle (on : Bool)
  | choice (index : Option Nat)
deriving DecidableEq, Repr

/-- The fields of each kind of record (R169). -/
inductive Body where
  | pick (pick : Pick) (loft : Option LoftPoint) (position : Nat) (tracking : Bool)
  | miss (reason : MissReason) (stage : Stage) (role : Role) (frames results : Nat) (element : Option (Nat × Nat))
  | menu (outcome : MenuOutcome) (sheet index : Nat) (button : Button) (trigger : Option Trigger) (cause : Option DisarmCause)
      (state : ButtonState) (depth top : Nat)
  | track (group tag : Nat) (centre : Point) (loft : Option LoftPoint) (arms : Nat)
  | trackEnd (group tag : Nat) (centre : Point) (loft : Option LoftPoint) (reason : EndReason) (duration : Nat)
  | sequenceEnd (outcome : SeqOutcome) (requested : Nat) (tags : List Nat)
  | glare (reminder : Nat)
  | glareEnd (frames reminders : Nat)
  | calibration (outcome : CalOutcome) (dotTag count : Nat) (least most result : Option Nat) (delayAfter framesUsed : Nat)
  | switch (input : Nat) (pressed : Bool)
deriving DecidableEq, Repr

/-- A record: its source, the frame number it carries, its notes and its fields (R163, R168). -/
structure Record where
  source : Source
  frame : Nat
  notes : Notes
  body : Body
deriving DecidableEq, Repr

/-- The Log Writer (table at the head of 11_the_pick_log.md). `held` holds the records of the three holds in their creation
order; the hold of a source is the sublist of that source's records (R165). -/
structure LogWriter where
  nextSlot : Nat
  recordNumber : Nat
  held : List Record
deriving DecidableEq, Repr

/-- The outcomes of a request (section 12.5). -/
inductive ReqOutcome where
  | done
  | unknown
  | outOfRange
  | wrongState
  | tableFull
  | notFound
deriving DecidableEq, Repr

/-- The Request Handler (R179). -/
structure Requests where
  lastTaken : BitVec 8
  lastOutcome : ReqOutcome
deriving DecidableEq, Repr

/-! ### The progress of a frame end, and what comes from outside -/

/-- A step that a channel's frame-end work has brought about and that the table lists on its own row. -/
inductive Owed where
  | reminder
  | tooFew
  | miss
  | lost
deriving DecidableEq, Repr

/-- The model's own record of a frame end in progress, from the close of a frame to the status write that R9 and R181 put
after the frame-end work of every block: the steps of the table that are still to come. Log entry 4. -/
structure FrameWork where
  active : Bool
  owed : Pair (Option Owed)
  expiry : Pair Bool
  period : Bool
deriving DecidableEq, Repr

/-- What the world outside brings to the part: a command, or a write of the host's to its own memory. Log entry 2. -/
inductive Arrival where
  | command (i : Instr)
  | hostWrite (address : Nat) (bytes : List Byte)
deriving DecidableEq, Repr

/-- The state of the part. The fields up to `locks` are the blocks' own; `mem` is host memory; `pending` is the queue of
commands that wait, first in, first out; `outside`, `ticks`, `choices`, `busFault` and `work` are the model's own (log entries
2 to 5 and 7). -/
structure State where
  pending : List Instr
  regs : Registers
  beam : Beam
  chans : Pair Channel
  menus : Pair Menu
  claims : ClaimTable
  inputs : Vector Switch 8
  idle : Idle
  feedback : Feedback
  loader : Loader
  log : LogWriter
  requests : Requests
  locks : Pair (Vector Bool 61)
  mem : List Host.Cell
  work : FrameWork
  busFault : Option BusError
  outside : List (Nat × Arrival)
  ticks : Nat
  choices : Nat
deriving DecidableEq, Repr

/-- The reasons for which the part stops in a fault: none. Every rule of spec/ gives an event of the part an effect; a bus
error and a wrong format number are states of the device (HALTED, R177 and R183), not stops of the model. -/
inductive Fault where
deriving DecidableEq, Repr

/-- The reasons for which the model refuses a command. -/
inductive Refusal where
  /-- Raised by an arm of `exec` whose row has no meaning yet, with the row's mnemonic; no arm raises it. Safe: it stops. -/
  | notModelled (mnemonic : String)
deriving DecidableEq, Repr

/-! ### The values after reset -/

/-- A channel after power-on reset (R32, R45, R104, R143). The strike line's level is a pin: DESIGN CHOICE low (log entry 1). -/
def Channel.reset : Channel where
  mode := .off
  lineHigh := false
  glareTimer := none
  strikes := 0
  pendingStrikes := []
  results := []
  glareFrames := 0
  reminders := 0
  reminderPhase := 0
  echo := .none
  delay := 0
  cableClass := none
  delayOverride := none
  dotTag := none
  measures := []
  measured := false
  budget := 0
  lastCal := none
  table := []
  windowCount := 0
  windowFrames := 0
  press := none
  stage := .noStrike
  windowResults := 0
  windowEcho := false
  collection := none
  tracked := none
  centre := ⟨0, 0⟩
  loss := 0
  duration := 0
  echoInCentre := false

/-- One channel's part of the Menu Engine after reset (R123). -/
def Menu.reset : Menu where
  stack := [0]
  home := 0
  toggles := []
  choices := []
  armed := none
  countdown := 0

/-- The installed tables after reset: no configuration, no groups, no views, and the one empty sheet of R105. -/
def Tables.reset : Tables where
  config := none
  groups := []
  views := []
  sheets := [⟨false, none, []⟩]

/-- The Table Loader after reset (R174, R176, R178). -/
def Loader.reset : Loader where
  tables := Tables.reset
  revisions := ⟨none, none, none, none⟩
  loads := ⟨.idle, .idle, .idle, .idle⟩
  outcome := ⟨0, ⟨false, false, false, false⟩, ⟨0, 0, 0, 0⟩, ⟨0, 0, 0, 0⟩⟩

/-- The Feedback Unit after reset (R161). -/
def Feedback.reset : Feedback where
  entry := ⟨none, none⟩
  blink := none
  period := 20
  onCount := 10
  waiting := none

/-- No frame end in progress. -/
def FrameWork.none : FrameWork := ⟨false, ⟨.none, .none⟩, ⟨false, false⟩, false⟩

/-- The registers after power-on reset (section 12.7). -/
def Registers.reset : Registers where
  areaBase := 0
  run := false
  enables := ⟨false, false, false, false⟩
  causes := ⟨false, false, false, false⟩
  faultKind := .none
  lost := ⟨false, false, false⟩
  device := .stopped

/-- The part right after power-on reset (R178 and the reset rule of every chapter: R17, R32, R45, R82, R104, R123, R143, R152,
R161, R171), with no command waiting. The switch pins stand RELEASED (DESIGN CHOICE, log entry 1). -/
def State.reset : State where
  pending := []
  regs := Registers.reset
  beam := ⟨false, 0, 0, [], false, false⟩
  chans := ⟨Channel.reset, Channel.reset⟩
  menus := ⟨Menu.reset, Menu.reset⟩
  claims := ⟨[], ⟨none, none⟩, none⟩
  inputs := Vector.replicate 8 ⟨false, false, none⟩
  idle := ⟨false, 0⟩
  feedback := Feedback.reset
  loader := Loader.reset
  log := ⟨0, 0, []⟩
  requests := ⟨0, .done⟩
  locks := ⟨Vector.replicate 61 false, Vector.replicate 61 false⟩
  mem := []
  work := FrameWork.none
  busFault := none
  outside := []
  ticks := 0
  choices := 0

end Sys2Proof.Machine
end

