-- ==== Sys2Proof/Machine/Operands.lean ====
section
/-! DEFINITION. The arithmetic of the spec on plain data: rounding and clamping (section 3.1 of 00_scope.md), byte order
(section 12.2 of 12_the_common_area.md), the offset and the point of a strike (R54, R59, R60), loft points (R62), guard spans
(R74), press order (R129), means (R97) and the figures of a calibration (R40). -/

namespace Sys2Proof.Machine

/-! ### Rounding and ranges -/

/-- `n / d` computed exactly and rounded to the nearest integer, halves away from zero (section 3.1). -/
def roundDiv (n : Int) (d : Nat) : Int :=
  if n < 0 then -(((2 * n.natAbs + d) / (2 * d) : Nat) : Int) else (((2 * n.natAbs + d) / (2 * d) : Nat) : Int)

/-- `v` clamped to `lo` to `hi`, which is also "saturated to" (section 3.1). -/
def clampInt (lo hi v : Int) : Int := if v < lo then lo else if hi < v then hi else v

/-- A display coordinate clamped to 0 to 4095 (R135). -/
def clampCoord (v : Int) : Nat := (clampInt 0 4095 v).toNat

/-! ### Bytes: every field of the common area is little-endian (section 12.2) -/

/-- The two bytes of a 16-bit field. -/
def bytes16 (n : Nat) : List Byte := [BitVec.ofNat 8 n, BitVec.ofNat 8 (n / 256)]

/-- The four bytes of a 32-bit field. -/
def bytes32 (n : Nat) : List Byte :=
  [BitVec.ofNat 8 n, BitVec.ofNat 8 (n / 256), BitVec.ofNat 8 (n / 65536), BitVec.ofNat 8 (n / 16777216)]

/-- The number a little-endian field holds. -/
def ofBytes : List Byte → Nat
  | [] => 0
  | b :: bs => b.toNat + 256 * ofBytes bs

/-- A 32-bit two's complement field. -/
def signed32 (n : Nat) : Int := (BitVec.ofNat 32 n).toInt

/-- The word of a signed number in 32-bit two's complement (R168). -/
def word32 (v : Int) : Nat := (BitVec.ofInt 32 v).toNat

/-! ### Times of a strike -/

/-- The window end: the smaller of t_c + W and t_s (R49). -/
def windowEnd (tc w ts : Nat) : Nat := min (tc + w) ts

/-- Offset and clamped time of an entry that covers [begun, ended) for the compensated time `tc` (the three cases of R54). -/
def offsetAndTime (tc begun ended : Nat) : Nat × Nat :=
  if tc < begun then (begun - tc, begun) else if tc < ended then (0, tc) else (tc - ended + 1, ended)

/-- The vector position p = round(n × 4096 / d), 0 for an entry of no length (R59). -/
def vectorPosition (n d : Nat) : Nat := if d = 0 then 0 else (roundDiv (n * 4096 : Nat) d).toNat

/-- One coordinate of the point on the winning vector (R60). -/
def alongAxis (v0 v1 n d : Nat) : Nat :=
  if d = 0 then v0 else ((v0 : Int) + roundDiv ((n : Int) * ((v1 : Int) - (v0 : Int))) d).toNat

/-- The display point `n` ticks along an entry that lasted `d` ticks (R60). -/
def alongVector (e : Entry) (n d : Nat) : Point :=
  ⟨alongAxis e.start.x e.finish.x n d, alongAxis e.start.y e.finish.y n d⟩

/-! ### Loft points -/

/-- One loft coordinate: rounding first, then the origin, then saturation to ±2,000,000 (R62). -/
def loftAxis (v d : Nat) (o s : Int) : Int :=
  clampInt (-Config.loftMax) Config.loftMax (o + roundDiv (((v : Int) - (d : Int)) * s) 256)

/-- A display point converted through a view; absent where the view has a scale of 0 (R61, R62). -/
def throughView (w : ViewEntry) (p : Point) : Option LoftPoint :=
  if w.sx = 0 ∨ w.sy = 0 then none else some ⟨loftAxis p.x w.dx w.ox w.sx, loftAxis p.y w.dy w.oy w.sy⟩

/-- The loft point of a display point of an element of group `g` (R61): absent for groups 61 to 63, for a group that names no
view and for a view with a scale of 0. -/
def loftPoint (t : Tables) (g : Nat) (p : Point) : Option LoftPoint :=
  if 60 < g then none
  else
    match t.groups[g]? with
    | none => none
    | some e =>
      match e.view with
      | none => none
      | some v =>
        match t.views[v]? with
        | none => none
        | some w => throughView w p

/-! ### Tags -/

/-- Whether a guard span covers a tag (R74). -/
def guards (d : GuardDir) (e tag : Nat) : Bool :=
  match d with
  | .none => false
  | .upper => decide (65536 - 2 ^ e ≤ tag)
  | .lower => decide (tag < 2 ^ e)
  | .all => true

/-- The other channel. -/
def otherChan : Chan → Chan
  | .a => .b
  | .b => .a

/-- The menu group of a channel (section 3.4 of 00_scope.md). -/
def menuGroup : Chan → Nat
  | .a => 62
  | .b => 61

/-- The tag of arm 0 of a channel's cross (R69, R133). -/
def armBase : Chan → Nat
  | .a => 0
  | .b => 4

/-- Whether a tag is one of the channel's arm tags (R69). -/
def isArmTag (c : Chan) (tag : Nat) : Bool := decide (armBase c ≤ tag ∧ tag < armBase c + 4)

/-! ### Presses -/

/-- How far the frame of a press lies back from the frame being closed, modulo 65536 (R129). -/
def framesBack (closing frame : Nat) : Nat := (closing + 65536 - frame % 65536) % 65536

/-- Whether channel A's press is the earlier of the two: further back in frames, then the smaller frame clock, then A (R129). -/
def pressAFirst (closing : Nat) (pa pb : Press) : Bool :=
  if framesBack closing pa.frame = framesBack closing pb.frame then decide (pa.clock ≤ pb.clock)
  else decide (framesBack closing pb.frame < framesBack closing pa.frame)

/-- The trigger that a pressing input gives a pick (R97). -/
def Role.trigger : Role → Trigger
  | .tip => .tip
  | .foot => .foot

/-- Whether a trigger source lets a role press (R90). -/
def TriggerSource.allows : TriggerSource → Role → Bool
  | .tip, .tip => true
  | .tip, .foot => false
  | .foot, .tip => false
  | .foot, .foot => true
  | .either, _ => true

/-- The rank of a window stage, larger when further (R92). -/
def Stage.rank : Stage → Nat
  | .noStrike => 0
  | .blank => 1
  | .trailShort => 2
  | .forbidden => 3
  | .unconfirmed => 4

/-- The further of two stages (R92). -/
def Stage.further (p q : Stage) : Stage := if p.rank < q.rank then q else p

/-- The stage a strike result reaches (R92). -/
def Verdict.stage : Verdict → Stage
  | .resolved _ => .unconfirmed
  | .blank => .blank
  | .forbidden => .forbidden
  | .trailShort => .trailShort

/-! ### Means and calibration figures -/

/-- The mean of a list, computed exactly and rounded (R97); 0 for the empty list. -/
def meanRounded (vs : List Nat) : Nat := (roundDiv (vs.sum : Nat) vs.length).toNat

/-- The measurements in ascending order (R40). -/
def sortedTicks (ms : List Measure) : List Nat := (ms.map Measure.ticks).insertionSort (· ≤ ·)

/-- The smallest measurement, absent when there is none (R44). -/
def leastTicks (ms : List Measure) : Option Nat := (sortedTicks ms).head?

/-- The largest measurement, absent when there is none (R44). -/
def mostTicks (ms : List Measure) : Option Nat := (sortedTicks ms).getLast?

/-- The middle value of eight measurements, the mean of the fourth and fifth, rounded; absent below eight (R40, R44). -/
def middleTicks (ms : List Measure) : Option Nat :=
  if ms.length < Config.measuresMax then none
  else some (meanRounded [(sortedTicks ms).getD 3 0, (sortedTicks ms).getD 4 0])

/-- The default delay of a cable class, in ticks (R34). -/
def cableDelay : Nat → Nat
  | 1 => 96
  | 2 => 160
  | 3 => 240
  | _ => 48

/-- The delay computed from the configuration: the override where it is 1 to 511, else the default of the class (R34). -/
def configuredDelay (cc : ChannelConfig) : Nat :=
  if cc.delayOverride = 0 then cableDelay cc.cableClass else cc.delayOverride

/-! ### The first configuration -/

/-- The defaults of a channel's block (section 12.2; the assignments of R146). -/
def defaultChannelConfig (c : Chan) : ChannelConfig where
  enable := false
  cableClass := 0
  edge := .rising
  trigger := .tip
  delayOverride := 0
  aperture := 0
  glareThreshold := 60
  m := 6
  k := 3
  pressWindow := 8
  buttonsOnSight := false
  home := 0
  guardDir := .none
  guardExp := 0
  startLocked := false
  contest := .pickOnly
  lossLimit := 4
  armLength := 32
  tip := match c with | .a => some 0 | .b => some 1
  foot := match c with | .a => some 2 | .b => some 3

/-- The values in use until the start installs a configuration (R145, R152, R156, R161), which are the layout's defaults. -/
def defaultConfiguration : Configuration where
  chans := ⟨defaultChannelConfig .a, defaultChannelConfig .b⟩
  debounce := 5
  reportMask := 0xFF
  period := 20
  onCount := 10
  confirmTimeout := 80
  strikeGate := ⟨true, false⟩
  penGate := ⟨true, false⟩
  consoleGate := ⟨true, true⟩
  idleSeconds := 600

/-- The sheet read where no sheet of a number is installed. -/
def emptySheet : Sheet := ⟨false, none, []⟩

end Sys2Proof.Machine
end

