-- ==== Sys2Proof/Machine/Flags.lean ====
section
/-! DEFINITION. The flags of the Control Registers: causes, enables and lost flags, what a write of STATUS clears, what the
registers read as, and the interrupt line (R182 and section 12.7 of 12_the_common_area.md). -/

namespace Sys2Proof.Machine

/-- The code of a device state in STATUS and in the status section (section 12.7). -/
def DeviceState.code : DeviceState → Nat
  | .stopped => 0
  | .loading => 1
  | .running => 2
  | .halted => 3

/-- The code of a fault kind (section 12.7). -/
def FaultKind.code : FaultKind → Nat
  | .none => 0
  | .busError => 1
  | .format => 2

/-- No cause. -/
def Causes.clear : Causes := ⟨false, false, false, false⟩

/-- The four flags that bits 4 to 7 of a register value hold (section 12.7). -/
def Causes.ofWord (v : Word) : Causes := ⟨v.getLsbD 4, v.getLsbD 5, v.getLsbD 6, v.getLsbD 7⟩

/-- The value of the four flags at bits 4 to 7. -/
def Causes.value (f : Causes) : Nat := 16 * f.log.toNat + 32 * f.request.toNat + 64 * f.load.toNat + 128 * f.fault.toNat

/-- The causes left by a write of STATUS: each written with a 1 is cleared (R182). -/
def Causes.afterWrite (f w : Causes) : Causes :=
  ⟨f.log && !w.log, f.request && !w.request, f.load && !w.load, f.fault && !w.fault⟩

/-- Whether some cause is set with its enable set (R182). -/
def Causes.anyEnabled (f e : Causes) : Bool :=
  (f.log && e.log) || (f.request && e.request) || (f.load && e.load) || (f.fault && e.fault)

/-- No lost flag. -/
def Lost.clear : Lost := ⟨false, false, false⟩

/-- The lost flags that bits 12 to 14 of a register value hold (section 12.7). -/
def Lost.ofWord (v : Word) : Lost := ⟨v.getLsbD 12, v.getLsbD 13, v.getLsbD 14⟩

/-- The value of the lost flags at bits 12 to 14. -/
def Lost.value (f : Lost) : Nat := 4096 * f.a.toNat + 8192 * f.b.toNat + 16384 * f.console.toNat

/-- The lost flags left by a write of STATUS (R182). -/
def Lost.afterWrite (f w : Lost) : Lost := ⟨f.a && !w.a, f.b && !w.b, f.console && !w.console⟩

/-- The lost flag of a source set (R166). -/
def Lost.mark (f : Lost) : Source → Lost
  | .chan .a => { f with a := true }
  | .chan .b => { f with b := true }
  | .console => { f with console := true }

/-- The interrupt line: asserted while any cause is set with its enable set (R182). -/
def Registers.interrupt (g : Registers) : Bool := g.causes.anyEnabled g.enables

/-- What CONTROL reads as; SOFT RESET reads 0 (section 12.7). -/
def Registers.controlValue (g : Registers) : Word := BitVec.ofNat 32 (g.run.toNat + g.enables.value)

/-- What STATUS reads as (section 12.7). -/
def Registers.statusValue (g : Registers) : Word :=
  BitVec.ofNat 32 (g.device.code + g.causes.value + 256 * g.faultKind.code + g.lost.value)

/-- What a register reads as, by its offset; a read of ATTENTION returns the current frame number and changes nothing (R182).
An offset with no register reads as none. -/
def readRegister (s : State) (offset : Nat) : Option Word :=
  match offset with
  | 0x0 => some s.regs.areaBase
  | 0x4 => some s.regs.controlValue
  | 0x8 => some s.regs.statusValue
  | 0xC => some (BitVec.ofNat 32 s.beam.frame)
  | _ => none

/-- The interrupt connection of the part (section 2.5 of 00_scope.md). -/
def interruptLine (s : State) : Bool := s.regs.interrupt

end Sys2Proof.Machine
end

