-- ==== Sys2Proof/Machine/Ops.lean ====
section
/-! DEFINITION. The named operations every command is written in: reading and writing a pair or a quad, host memory in its
canonical form (log entry 8), accesses to the common area and the bus errors they may meet (R172, R183), the fields of one
channel, the tables in use, and entering HALTED (R177, R181, R183). -/

namespace Sys2Proof.Machine

/-! ### Pairs and quads -/

/-- The value of a channel. -/
def Pair.get {α : Type} (p : Pair α) : Chan → α
  | .a => p.a
  | .b => p.b

/-- The pair with one channel's value replaced. -/
def Pair.set {α : Type} (p : Pair α) (c : Chan) (v : α) : Pair α :=
  match c with
  | .a => { p with a := v }
  | .b => { p with b := v }

/-- The value of a table. -/
def Quad.get {α : Type} (q : Quad α) : TableId → α
  | .config => q.config
  | .group => q.group
  | .view => q.view
  | .menu => q.menu

/-- The quad with one table's value replaced. -/
def Quad.set {α : Type} (q : Quad α) (t : TableId) (v : α) : Quad α :=
  match t with
  | .config => { q with config := v }
  | .group => { q with group := v }
  | .view => { q with view := v }
  | .menu => { q with menu := v }

/-! ### Host memory -/

/-- What an address that memory does not list reads as. DESIGN CHOICE (log entry 8): the spec gives host memory no contents. -/
def Memory.unlisted : Byte := 0

/-- The canonical form: addresses strictly rising, and no entry equal to what an unlisted address reads as. -/
abbrev Memory.wf (m : List Host.Cell) : Prop :=
  m.Pairwise (fun x y => x.1 < y.1) ∧ ∀ x ∈ m, x.2 ≠ Memory.unlisted

/-- The byte at an address. -/
def Memory.read : List Host.Cell → Nat → Byte
  | [], _ => Memory.unlisted
  | (k, v) :: r, a => if k = a then v else Memory.read r a

/-- Memory with one byte written. -/
def Memory.write : List Host.Cell → Nat → Byte → List Host.Cell
  | [], a, v => if v = Memory.unlisted then [] else [(a, v)]
  | (k, w) :: r, a, v =>
    if a < k then (if v = Memory.unlisted then (k, w) :: r else (a, v) :: (k, w) :: r)
    else if a = k then (if v = Memory.unlisted then r else (a, v) :: r)
    else (k, w) :: Memory.write r a v

/-- The `n` bytes from an address up. -/
def Memory.readBytes (m : List Host.Cell) (a : Nat) : Nat → List Byte
  | 0 => []
  | n + 1 => Memory.read m a :: Memory.readBytes m (a + 1) n

/-- Memory with bytes written from an address up. -/
def Memory.writeBytes (m : List Host.Cell) (a : Nat) : List Byte → List Host.Cell
  | [] => m
  | b :: bs => Memory.writeBytes (Memory.write m a b) (a + 1) bs

/-! ### The parts of the state -/

/-- A channel's state. -/
def State.chan (s : State) (c : Chan) : Channel := s.chans.get c

/-- The state with a channel's state replaced. -/
def State.setChan (s : State) (c : Chan) (x : Channel) : State := { s with chans := s.chans.set c x }

/-- The state with a channel's state changed. -/
def State.onChan (s : State) (c : Chan) (f : Channel → Channel) : State := s.setChan c (f (s.chan c))

/-- A channel's part of the Menu Engine. -/
def State.menu (s : State) (c : Chan) : Menu := s.menus.get c

/-- The state with a channel's part of the Menu Engine changed. -/
def State.onMenu (s : State) (c : Chan) (f : Menu → Menu) : State := { s with menus := s.menus.set c (f (s.menus.get c)) }

/-- The state with the registers changed. -/
def State.onRegs (s : State) (f : Registers → Registers) : State := { s with regs := f s.regs }

/-- The tables in use. -/
def State.tables (s : State) : Tables := s.loader.tables

/-- The configuration in use: the installed one, or the defaults until the start installs the first (R145, R152, R156, R161). -/
def State.config (s : State) : Configuration := s.loader.tables.config.getD defaultConfiguration

/-- A channel's block of the configuration in use. -/
def State.chanConfig (s : State) (c : Chan) : ChannelConfig := s.config.chans.get c

/-- A sheet of the installed menu table. -/
def Tables.sheet (t : Tables) (n : Nat) : Sheet := t.sheets.getD n emptySheet

/-- The top sheet of a stack (R108). -/
def Menu.top (m : Menu) : Nat := m.stack.getLast?.getD 0

/-- An enabled channel state (R18). -/
def Mode.enabled (m : Mode) : Bool := m != .off

/-- The level that the strike line of a channel has when it is active (R21): HIGH for RISING, LOW for FALLING. -/
def Edge.activeHigh : Edge → Bool
  | .rising => true
  | .falling => false

/-- Whether a channel's strike line stands at its active level. -/
def State.lineActive (s : State) (c : Chan) : Bool := (s.chan c).lineHigh == (s.chanConfig c).edge.activeHigh

/-- Whether an input is held: its held flag is set exactly while its debounced level is PRESSED (R144). An input NONE is not
held (R128, R137). -/
def State.held (s : State) (i : Option (Fin 8)) : Bool :=
  match i with
  | none => false
  | some n => (s.inputs.get n).level

/-- Whether a channel's tip input is held (R128, R137). -/
def State.tipHeld (s : State) (c : Chan) : Bool := s.held (s.chanConfig c).tip

/-- The pick class of a group: from the installed group table for groups 0 to 60, and 7 for groups 61 to 63 (R58, R88). -/
def Tables.pickClass (t : Tables) (g : Nat) : Nat := if 60 < g then 7 else ((t.groups[g]?).map GroupEntry.pickClass).getD 0

/-- Whether the installed group table makes a group draggable (R72, R128). -/
def Tables.draggable (t : Tables) (g : Nat) : Bool :=
  if 60 < g then false else ((t.groups[g]?).map GroupEntry.draggable).getD false

/-- The rest of a step's work, done unless the device has entered HALTED in it: in HALTED every block is frozen (R183). -/
def State.andThen (s : State) (f : State → State) : State := if s.regs.device = .halted then s else f s

/-- The work of both channels at one moment, in the order of the free value (R9, log entry 3). -/
def State.eachChan (s : State) (f : Chan → State → State) : State :=
  let t := { s with choices := s.choices + 1 }
  if Config.channelBFirst s.choices then (f .b t).andThen (f .a) else (f .a t).andThen (f .b)

/-! ### Accesses to the common area -/

/-- The host address of an offset of the common area (R172). -/
def State.area (s : State) (offset : Nat) : Nat := s.regs.areaBase.toNat + offset

/-- One access of a kind: the error it meets, if the bus has one waiting for it (with the number of words already
transferred), and the state after it. -/
def State.access (s : State) (a : BusAccess) : Option Nat × State :=
  match s.busFault with
  | none => (none, s)
  | some e =>
    if e.access = a then
      if e.ahead ≤ 1 then (some e.words, { s with busFault := none })
      else (none, { s with busFault := some { e with ahead := e.ahead - 1 } })
    else (none, s)

/-- The bytes read from an offset of the common area. -/
def State.areaBytes (s : State) (offset n : Nat) : List Byte := Memory.readBytes s.mem (s.area offset) n

/-- The state with bytes written from an offset of the common area up. -/
def State.writeArea (s : State) (offset : Nat) (bs : List Byte) : State :=
  { s with mem := Memory.writeBytes s.mem (s.area offset) bs }

/-! ### The status section -/

/-- The code of a channel state (R181). -/
def Mode.code : Mode → Nat
  | .off => 0
  | .watch => 1
  | .pressed => 2
  | .calibrating => 3
  | .tracking => 4
  | .suspended => 5
  | .glare => 6

/-- The code of a calibration outcome (R168). -/
def CalOutcome.code : CalOutcome → Nat
  | .set => 1
  | .unsteady => 2
  | .tooFew => 3
  | .cancelled => 4
  | .glare => 5
  | .disabled => 6

/-- The code of a request outcome (section 12.5). -/
def ReqOutcome.code : ReqOutcome → Nat
  | .done => 0
  | .unknown => 1
  | .outOfRange => 2
  | .wrongState => 3
  | .tableFull => 4
  | .notFound => 5

/-- The code of a holder (R181). -/
def Holder.code : Holder → Nat
  | .pen .a => 0
  | .pen .b => 1
  | .program => 2

/-- Whether the "echo pending" flag is set: from the taking of INJECT STRIKE until delivery or lapse (R30). -/
def Echo.isPending : Echo → Bool
  | .none => false
  | .scheduled _ => true
  | .due _ => true

/-- The sixteen bytes of a channel in the status section (R181). -/
def channelStatus (x : Channel) (m : Menu) : List Byte :=
  [BitVec.ofNat 8 x.mode.code, BitVec.ofNat 8 m.stack.length] ++
  (List.range 4).map (fun i => BitVec.ofNat 8 (m.stack.getD i 0xFF)) ++
  bytes16 x.delay ++
  [BitVec.ofNat 8 ((x.lastCal.map (fun r => r.1.code)).getD 0), BitVec.ofNat 8 x.echo.isPending.toNat] ++
  bytes16 ((x.lastCal.map Prod.snd).getD 0) ++ [0, 0, 0, 0]

/-- The four bytes of a claim entry in the status section; an entry beyond the count has tag 0 and holder 0xFF (R181). -/
def claimStatus (e : Option Claim) : List Byte :=
  match e with
  | none => [0, 0, 0xFF, 0]
  | some k => bytes16 k.tag ++ [BitVec.ofNat 8 k.holder.code, 0]

/-- The flags of the tables installed at the last install (R181). -/
def Quad.bits (q : Quad Bool) : Nat := q.config.toNat + 2 * q.group.toNat + 4 * q.view.toNat + 8 * q.menu.toNat

/-- The 192 bytes of the status section (R181). DESIGN CHOICE (log entry 33): the installed revisions at +0x0C to +0x1B are those of
the last load outcome, which differ from the Table Loader's own where a bus error cuts an install after its tables are in use. -/
def statusImage (s : State) : List Byte :=
  [BitVec.ofNat 8 s.requests.lastTaken.toNat, BitVec.ofNat 8 s.requests.lastOutcome.code,
    BitVec.ofNat 8 s.regs.device.code, BitVec.ofNat 8 s.beam.overLong.toNat] ++
  bytes16 s.beam.frame ++ [BitVec.ofNat 8 s.log.nextSlot, BitVec.ofNat 8 s.claims.entries.length] ++
  bytes16 s.loader.outcome.frame ++ [BitVec.ofNat 8 s.loader.outcome.installed.bits, 0] ++
  bytes32 s.loader.outcome.revisions.config.toNat ++ bytes32 s.loader.outcome.revisions.group.toNat ++
  bytes32 s.loader.outcome.revisions.view.toNat ++ bytes32 s.loader.outcome.revisions.menu.toNat ++
  [BitVec.ofNat 8 s.loader.outcome.counts.config, BitVec.ofNat 8 s.loader.outcome.counts.group,
    BitVec.ofNat 8 s.loader.outcome.counts.view, BitVec.ofNat 8 s.loader.outcome.counts.menu] ++
  channelStatus s.chans.a s.menus.a ++ channelStatus s.chans.b s.menus.b ++
  (List.range 8).flatMap (fun i => claimStatus s.claims.entries[i]?) ++
  List.replicate 96 0

/-- The words of a status section that stand in memory when the word after the first `w` written meets an error: the words
from +0x04 upward come first and the word at +0x00 last (R181). -/
def State.partStatus (s : State) (w : Nat) : State := s.writeArea 0x44 (((statusImage s).drop 4).take (4 * w))

/-- A write of the status section (R181): whether it was made whole, and the state after it. -/
def State.tryStatus (s : State) : Bool × State :=
  match s.access .statusWrite with
  | (none, t) => (true, t.writeArea 0x40 (statusImage t))
  | (some w, t) => (false, t.partStatus w)

/-- The glare timers of both channels stopped (R32). -/
def State.stopGlareTimers (s : State) : State :=
  (s.onChan .a fun x => { x with glareTimer := none }).onChan .b fun x => { x with glareTimer := none }

/-- Entry to HALTED with a fault kind: FAULT is set, the glare timers stop, and the status section is written as the last access
the part makes; a bus error on that write changes nothing more (R32, R177, R181, R183). -/
def State.halt (s : State) (k : FaultKind) : State :=
  (s.stopGlareTimers.onRegs fun g =>
    { g with device := .halted, faultKind := k, causes := { g.causes with fault := true } }).tryStatus.2

/-- What a bus error does to the device (R183): HALTED in LOADING or RUNNING; in STOPPED the fault kind and the cause alone. -/
def State.busErrorMet (s : State) : State :=
  match s.regs.device with
  | .loading => s.halt .busError
  | .running => s.halt .busError
  | .stopped => s.onRegs fun g => { g with faultKind := .busError, causes := { g.causes with fault := true } }
  | .halted => s

/-- A write of the status section with the consequence of a bus error on it: whether it was made whole, and the state. -/
def State.writeStatus (s : State) : Bool × State :=
  match s.tryStatus with
  | (true, t) => (true, t)
  | (false, t) => (false, t.busErrorMet)

end Sys2Proof.Machine
end

