-- ==== Sys2Proof/Machine/Log.lean ====
section
/-! DEFINITION. The Log Writer (11_the_pick_log.md): the words of each record (R168, R169), writing a slot (R163), joining,
superseding in and being discarded from a hold (R165, R166), draining (R167) and placing a new record (R164). -/

namespace Sys2Proof.Machine

/-! ### Codes of R168 -/

/-- The code of a source. -/
def Source.code : Source → Nat
  | .chan .a => 0
  | .chan .b => 1
  | .console => 2

/-- The code of a record's kind. -/
def Body.code : Body → Nat
  | .pick _ _ _ _ => 1
  | .miss _ _ _ _ _ _ => 2
  | .menu _ _ _ _ _ _ _ _ _ => 3
  | .track _ _ _ _ _ => 4
  | .trackEnd _ _ _ _ _ _ => 5
  | .sequenceEnd _ _ _ => 6
  | .glare _ => 7
  | .glareEnd _ _ => 8
  | .calibration _ _ _ _ _ _ _ _ => 9
  | .switch _ _ => 10

/-- The code of a trigger. -/
def Trigger.code : Trigger → Nat
  | .tip => 0
  | .foot => 1
  | .sight => 2

/-- The code of a pressing input, as a trigger. -/
def Role.code (r : Role) : Nat := r.trigger.code

/-- The code of a window stage. -/
def Stage.code : Stage → Nat
  | .unconfirmed => 1
  | .forbidden => 2
  | .trailShort => 3
  | .blank => 4
  | .noStrike => 5

/-- The code of a miss reason. -/
def MissReason.code : MissReason → Nat
  | .stage g => g.code
  | .glare => 6
  | .contested => 7

/-- The code of a menu outcome. -/
def MenuOutcome.code : MenuOutcome → Nat
  | .fired => 1
  | .armed => 2
  | .depth => 3
  | .atHome => 4
  | .disarmed => 5

/-- The code of a button kind; 0 for a button of no kind, which is inert and makes no record. -/
def ButtonKind.code : ButtonKind → Nat
  | .command => 1
  | .openSheet => 2
  | .back => 3
  | .toggle => 4
  | .choice => 5

/-- The code of a disarm cause. -/
def DisarmCause.code : DisarmCause → Nat
  | .pick => 1
  | .expired => 2
  | .stack => 3
  | .home => 4
  | .install => 5

/-- The code of a track end reason. -/
def EndReason.code : EndReason → Nat
  | .dropped => 1
  | .lost => 2
  | .glare => 3
  | .released => 4
  | .disabled => 5

/-- The code of a sequence outcome. -/
def SeqOutcome.code : SeqOutcome → Nat
  | .complete => 1
  | .ended => 2
  | .aborted => 3

/-- The state half-word of a MENU record (R169). -/
def ButtonState.code : ButtonState → Nat
  | .absent => 0xFFFF
  | .toggle on => on.toNat
  | .choice none => 0xFFFE
  | .choice (some i) => i

/-! ### Layouts of R168 and R169 -/

/-- A word from its lo and hi halves. -/
def halves (lo hi : Nat) : Nat := lo % 65536 + 65536 * (hi % 65536)

/-- The loft words of a record: 0 when the loft point is absent (R169). -/
def loftWords (l : Option LoftPoint) : List Nat :=
  match l with
  | none => [0, 0]
  | some p => [word32 p.x, word32 p.y]

/-- The tags of a SEQUENCE END record, two per word, lo first, in eight words (R169). -/
def tagWords (tags : List Nat) : List Nat :=
  (List.range 8).map fun i => halves (tags.getD (2 * i) 0) (tags.getD (2 * i + 1) 0)

/-- Words 2 and after of a record (R169); the words after the last listed are written 0. DESIGN CHOICE (log entry 32): in a word that
is listed, a half that is not (MENU w6 hi, TRACK END w7 lo, SEQUENCE END w3 hi, GLARE w2 hi) and the flag bits above those named are
written 0 too, of which the spec does not speak. -/
def Body.words : Body → List Nat
  | .pick k l pos tracking =>
    [halves k.tag k.group, halves k.index k.p, halves k.point.x k.point.y] ++ loftWords l ++
      [halves k.sightings k.trigger.code, halves pos (l.isSome.toNat + 2 * tracking.toNat)]
  | .miss r g role frames results e =>
    [halves r.code g.code, halves role.code frames, halves results e.isSome.toNat,
      halves ((e.map Prod.snd).getD 0) ((e.map Prod.fst).getD 0)]
  | .menu o sheet i b trig cause st depth top =>
    [halves o.code sheet, halves i b.tag, halves ((b.kind.map ButtonKind.code).getD 0) b.code,
      halves ((trig.map Trigger.code).getD 0xFFFF) ((cause.map DisarmCause.code).getD 0xFFFF),
      halves st.code 0, halves depth top]
  | .track g t c l arms => [halves t g, halves c.x c.y] ++ loftWords l ++ [halves arms l.isSome.toNat]
  | .trackEnd g t c l r d => [halves t g, halves c.x c.y] ++ loftWords l ++ [halves r.code d, halves 0 l.isSome.toNat]
  | .sequenceEnd o n tags => [halves o.code n, halves tags.length 0] ++ tagWords tags
  | .glare n => [halves n 0]
  | .glareEnd n k => [halves n k]
  | .calibration o dot n lo hi r d used =>
    [halves o.code dot, halves n (lo.getD 0xFFFF), halves (hi.getD 0xFFFF) (r.getD 0xFFFF), halves d used]
  | .switch i p => [halves i p.toNat]

/-- The value of the notes at bits 24 to 28 of word 0 (R168). -/
def Notes.value (n : Notes) : Nat :=
  n.echo.toNat + 2 * n.contested.toNat + 4 * n.noTrack.toNat + 8 * n.again.toNat + 16 * n.edge.toNat

/-- Word 0 of a record's slot, with state FILLED (R168). -/
def Record.word0 (r : Record) : Nat := 1 + 256 * r.body.code + 65536 * r.source.code + 16777216 * r.notes.value

/-- Words 1 to 15 of a record's slot: the frame number and record number, the fields, and 0 beyond them (R163, R168). -/
def Record.wordsAfter (r : Record) (number : Nat) : List Nat :=
  let ws := halves r.frame number :: r.body.words
  ws ++ List.replicate (15 - ws.length) 0

/-! ### The log -/

/-- The offset of a slot (R162). -/
def slotOffset (i : Nat) : Nat := 0x1800 + 64 * i

/-- Whether the state field of the slot at the next slot index reads as FREE (R162). -/
def State.slotFree (s : State) : Bool := Memory.read s.mem (s.area (slotOffset s.log.nextSlot)) == 0

/-- A record written into the slot at the next slot index (R163), or lost to a bus error that leaves word 0 as it was (R170). -/
def State.writeRecord (s : State) (r : Record) : State :=
  let off := slotOffset s.log.nextSlot
  let after := (r.wordsAfter s.log.recordNumber).flatMap bytes32
  match s.access .slotWrite with
  | (some w, t) => (t.writeArea (off + 4) (after.take (4 * w))).busErrorMet
  | (none, t) =>
    let u := (t.writeArea (off + 4) after).writeArea off (bytes32 r.word0)
    let v := { u with log := { u.log with
      nextSlot := (u.log.nextSlot + 1) % 64, recordNumber := (u.log.recordNumber + 1) % 65536 } }
    v.onRegs fun g => { g with causes := { g.causes with log := true } }

/-- Whether a record is a TRACK record. -/
def Record.isTrack (r : Record) : Bool := r.body.code == 4

/-- The hold of a source (R165). -/
def LogWriter.hold (l : LogWriter) (src : Source) : List Record := l.held.filter fun r => r.source == src

/-- Whether a held record is superseded by a new one: both are TRACK records of one source (R165). -/
def supersedes (new old : Record) : Bool := new.isTrack && old.isTrack && (old.source == new.source)

/-- A record joins its source's hold: a TRACK record supersedes the one held (R165); a full hold discards the new record and
sets the source's lost flag (R166). -/
def State.joinHold (s : State) (r : Record) : State :=
  let kept := s.log.held.filter fun x => !supersedes r x
  if ({ s.log with held := kept }.hold r.source).length < Config.holdMax then
    { s with log := { s.log with held := kept ++ [r] } }
  else s.onRegs fun g => { g with lost := g.lost.mark r.source }

/-- At most `n` rounds of draining: the oldest held record of all leaves its hold for the next slot while that reads FREE
(R167). A bus error on the read of the state field halts the part with the holds as they are (R170). -/
def State.drainSteps : Nat → State → State
  | 0, s => s
  | n + 1, s =>
    match s.log.held with
    | [] => s
    | r :: rest =>
      match s.access .slotRead with
      | (some _, t) => t.busErrorMet
      | (none, t) =>
        if t.slotFree then
          ({ t with log := { t.log with held := rest } }.writeRecord r).andThen (State.drainSteps n)
        else t

/-- Draining (R167). -/
def State.drain (s : State) : State := State.drainSteps s.log.held.length s

/-- A new record placed once the holds have been drained (R164). -/
def State.placeDrained (s : State) (r : Record) : State :=
  match s.log.held with
  | [] =>
    match s.access .slotRead with
    | (some _, t) => t.busErrorMet
    | (none, t) => if t.slotFree then t.writeRecord r else t.joinHold r
  | _ :: _ => s.joinHold r

/-- The arrival of a new record at the Log Writer (R164). -/
def State.place (s : State) (r : Record) : State := s.drain.andThen fun t => t.placeDrained r

/-- A record of a channel, carrying the current frame number (R4), handed to the Log Writer. -/
def State.record (s : State) (c : Chan) (n : Notes) (b : Body) : State := s.place ⟨.chan c, s.beam.frame, n, b⟩

end Sys2Proof.Machine
end

