-- ==== Sys2Proof/Machine/Permission.lean ====
section
/-! DEFINITION. The Permission Unit (05_pick_permission.md), the confirmation and order of qualification entries (R88), and the
Feedback Unit's choice of a highlight entry (R155). -/

namespace Sys2Proof.Machine

/-! ### The answer -/

/-- The index of the live button of a sheet that carries a tag (R70, R107). -/
def Sheet.live (sh : Sheet) (tag : Nat) : Option Nat := sh.buttons.findIdx? fun b => b.tag == tag && !b.inert

/-- The top sheet of a channel, as installed. -/
def State.topSheet (s : State) (c : Chan) : Sheet := s.tables.sheet (s.menu c).top

/-- Whether a claim on a tag refuses it to a channel: one held by the host program or by the other pen (R79). -/
def claimRefuses (claims : List Claim) (c : Chan) (tag : Nat) : Bool :=
  claims.any fun k => k.tag == tag && k.holder != .pen c

/-- Whether a channel's lock flag for a group is set (R75). -/
def State.locked (s : State) (c : Chan) (g : Nat) : Bool := ((s.locks.get c)[g]?).getD false

/-- Whether one of the five refusals of R71 holds for a candidate of a drawing group. -/
def State.drawingRefused (s : State) (claims : List Claim) (c : Chan) (g tag : Nat) : Bool :=
  (s.topSheet c).modal || s.tables.pickClass g == 0 || s.locked c g ||
    guards (s.chanConfig c).guardDir (s.chanConfig c).guardExp tag || claimRefuses claims c tag

/-- May this channel pick this candidate, with these claims (R68)? -/
def State.permits (s : State) (claims : List Claim) (c : Chan) (g tag : Nat) : Bool :=
  if (s.chan c).mode = .tracking ∨ (s.chan c).mode = .suspended then g == 63 && isArmTag c tag
  else if g = 63 then false
  else if g = 61 ∨ g = 62 then g == menuGroup c && ((s.topSheet c).live tag).isSome
  else decide (g ≤ 60) && !s.drawingRefused claims c g tag

/-! ### Confirmed and eligible entries -/

/-- The sightings in an entry's history, oldest first. -/
def Qual.sightings (q : Qual) : List Sighting := q.history.filterMap id

/-- An entry is confirmed when its history holds at least K sightings (R88). -/
def Qual.confirmed (k : Nat) (q : Qual) : Bool := decide (k ≤ q.sightings.length)

/-- The latest sighting's offset (R88); an entry of a table always holds a sighting (R85). -/
def Qual.latestOffset (q : Qual) : Nat := ((q.sightings.getLast?).map Sighting.offset).getD 0

/-- Whether an entry standing later in the table comes before an earlier one in the order of R88; the later one wins a tie. -/
def betterQual (t : Tables) (early late : Qual) : Bool :=
  let ce := t.pickClass early.group
  let cl := t.pickClass late.group
  if ce ≠ cl then decide (ce < cl)
  else if early.sightings.length ≠ late.sightings.length then decide (early.sightings.length < late.sightings.length)
  else decide (late.latestOffset ≤ early.latestOffset)

/-- The best of a list of entries, in table order (R88). -/
def bestQual (t : Tables) : List Qual → Option Qual
  | [] => none
  | q :: qs => some (qs.foldl (fun best x => if betterQual t best x then x else best) q)

/-- The confirmed entries of a channel that the Permission Unit permits with these claims (R80, R93). -/
def State.eligible (s : State) (claims : List Claim) (c : Chan) : List Qual :=
  (s.chan c).table.filter fun q => q.confirmed (s.chanConfig c).k && s.permits claims c q.group q.tag

/-- The claims that questions asked as part of a frame end use: those at the close (R79). -/
def State.closeClaims (s : State) : List Claim := s.claims.atClose.getD s.claims.entries

/-- The highlight entry that the Feedback Unit chooses for a channel with these claims (R155). -/
def State.highlightEntry (s : State) (claims : List Claim) (c : Chan) : Option (Nat × Nat) :=
  if (s.chan c).mode = .watch ∨ (s.chan c).mode = .pressed then
    (bestQual s.tables (s.eligible claims c)).map fun q => (q.group, q.tag)
  else none

/-- The Feedback Unit chooses a channel's highlight entry anew (R155). -/
def State.choose (s : State) (claims : List Claim) (c : Chan) : State :=
  { s with feedback := { s.feedback with entry := s.feedback.entry.set c (s.highlightEntry claims c) } }

/-- A channel's choice outside a frame end, with the claims as they stand: at a change of its state and at an emptying of its table
(R155). -/
def State.chooseNow (s : State) (c : Chan) : State := s.choose s.claims.entries c

/-- The choice for both channels with the claims as they stand (R155). -/
def State.chooseBoth (s : State) : State := (s.chooseNow .a).chooseNow .b

end Sys2Proof.Machine
end

