-- ==== Sys2Proof/Machine/Menu.lean ====
section
/-! DEFINITION. The Menu Engine and the blink generator (07_light_button_menus.md, section 10.5 of 10_display_feedback.md):
disarming and arming (R113, R115, R158), the kinds (R111, R112), a button pick (R110), the MENU record (R116), the confirm
countdown (R114) and what an install does to a channel's menu (R120, R121). -/

namespace Sys2Proof.Machine

/-! ### The blink generator -/

/-- Whether either channel has an armed button. -/
def State.anyArmed (s : State) : Bool := s.menus.a.armed.isSome || s.menus.b.armed.isSome

/-- The generator adopts pending values, if any (R160). -/
def Feedback.adopt (f : Feedback) : Feedback :=
  match f.waiting with
  | none => f
  | some (p, n) => { f with period := p, onCount := n, waiting := none }

/-- The generator started or stopped to follow the armed buttons (R158): it starts with k = 0, keeps its count while RUNNING, and
at a stop discards k and adopts pending values (R160). -/
def State.syncBlink (s : State) : State :=
  match s.anyArmed, s.feedback.blink with
  | true, none => { s with feedback := { s.feedback with blink := some 0 } }
  | false, some _ => { s with feedback := { s.feedback with blink := none }.adopt }
  | true, some _ => s
  | false, none => s

/-- The count of a RUNNING generator raised at a frame end; reaching the period makes a period end owed (R159). DESIGN CHOICE (log
entry 4): before the channels' work of that frame end. -/
def State.countBlink (s : State) : State :=
  match s.feedback.blink with
  | none => s
  | some k =>
    { s with feedback := { s.feedback with blink := some (k + 1) },
             work := { s.work with period := decide (k + 1 = s.feedback.period) } }

/-! ### Records -/

/-- The state field of a MENU record (R116). -/
def State.buttonState (s : State) (c : Chan) (sheet i : Nat) (b : Button) : ButtonState :=
  match b.kind with
  | some .toggle => .toggle ((((s.menu c).toggles.getD sheet []).getD i false))
  | some .choice => .choice ((s.menu c).choices.getD sheet none)
  | some .command => .absent
  | some .openSheet => .absent
  | some .back => .absent
  | none => .absent

/-- The fields of a MENU record of a button, with the state, depth and top sheet as they stand (R116). -/
def State.menuBody (s : State) (c : Chan) (o : MenuOutcome) (sheet i : Nat) (trig : Option Trigger)
    (cause : Option DisarmCause) : Body :=
  let b := (s.tables.sheet sheet).buttons.getD i ⟨0, none, 0, 0, false, false, true⟩
  .menu o sheet i b trig cause (s.buttonState c sheet i b) (s.menu c).stack.length (s.menu c).top

/-- A channel's armed button, if any, cleared with its countdown (R115). -/
def State.clearArmed (s : State) (c : Chan) : State :=
  match (s.menu c).armed with
  | none => s
  | some _ => (s.onMenu c fun m => { m with armed := none, countdown := 0 }).syncBlink

/-- The DISARMED record of a channel's armed button, if any, with the menu as it stands (R115, R116). -/
def State.reportDisarm (s : State) (c : Chan) (cause : DisarmCause) : State :=
  match (s.menu c).armed with
  | none => s
  | some (sheet, i) => s.record c {} (s.menuBody c .disarmed sheet i none (some cause))

/-- A channel's armed button, if any, disarmed with a DISARMED record (R115). The record comes first (log entry 21), so that a bus error
on it leaves the highlight as the shown sheet is: a change that the disarming event makes to both is not seen half made (R153). -/
def State.disarm (s : State) (c : Chan) (cause : DisarmCause) : State :=
  (s.reportDisarm c cause).andThen fun t => t.clearArmed c

/-! ### Picks of buttons -/

/-- A channel's toggle state of one button flipped (R111). -/
def flipToggle (toggles : List (List Bool)) (sheet i : Nat) : List (List Bool) :=
  toggles.modify sheet fun row => row.modify i not

/-- A button performs its kind on the channel's menu (R111): the outcome and the menu after it. -/
def performKind (m : Menu) (sheet i : Nat) (b : Button) : MenuOutcome × Menu :=
  match b.kind with
  | some .openSheet =>
    if m.stack.length < Config.stackMax then (.fired, { m with stack := m.stack ++ [b.target] }) else (.depth, m)
  | some .back => if 2 ≤ m.stack.length then (.fired, { m with stack := m.stack.dropLast }) else (.atHome, m)
  | some .toggle => (.fired, { m with toggles := flipToggle m.toggles sheet i })
  | some .choice => (.fired, { m with choices := m.choices.set sheet (some i) })
  | some .command => (.fired, m)
  | none => (.fired, m)

/-- A button performs its kind, and its MENU record is created (R110, R111). -/
def State.perform (s : State) (c : Chan) (sheet i : Nat) (b : Button) (trig : Trigger) (echo : Bool) : State :=
  let r := performKind (s.menu c) sheet i b
  let t := s.onMenu c fun _ => r.2
  t.record c { echo := echo } (t.menuBody c r.1 sheet i (some trig) none)

/-- A CONFIRM button becomes the channel's armed button, with its MENU record (R113). -/
def State.arm (s : State) (c : Chan) (sheet i : Nat) (trig : Trigger) (echo : Bool) : State :=
  let t := (s.onMenu c fun m => { m with armed := some (sheet, i), countdown := s.config.confirmTimeout }).syncBlink
  t.record c { echo := echo } (t.menuBody c .armed sheet i (some trig) none)

/-- The Menu Engine takes a button pick once any other armed button has been disarmed (cases 2 to 4 of R110). -/
def State.takeButton (s : State) (c : Chan) (sheet i : Nat) (b : Button) (trig : Trigger) (echo : Bool) : State :=
  if (s.menu c).armed = some (sheet, i) then (s.clearArmed c).perform c sheet i b trig echo
  else if b.confirm then s.arm c sheet i trig echo
  else s.perform c sheet i b trig echo

/-- The Menu Engine takes a button pick by its tag on the channel's top sheet (R110). -/
def State.buttonPick (s : State) (c : Chan) (tag : Nat) (trig : Trigger) (echo : Bool) : State :=
  let sheet := (s.menu c).top
  match (s.topSheet c).live tag with
  | none => s
  | some i =>
    let b := (s.topSheet c).buttons.getD i ⟨0, none, 0, 0, false, false, true⟩
    (if (s.menu c).armed = some (sheet, i) then s else s.disarm c .pick).andThen fun t => t.takeButton c sheet i b trig echo

/-- The confirm countdown lowered at a frame end, unless the button was armed at this frame end (R114): `before` is what was
armed when the frame end began. Reaching 0 makes an expiry owed, which is taken after both channels' work (log entry 4). -/
def State.lowerCountdown (s : State) (c : Chan) (before : Option (Nat × Nat)) : State :=
  if (s.menu c).armed.isSome && (s.menu c).armed == before then
    let n := (s.menu c).countdown - 1
    let t := s.onMenu c fun m => { m with countdown := n }
    if n = 0 then { t with work := { t.work with expiry := t.work.expiry.set c true } } else t
  else s

/-! ### Requests and installs -/

/-- A sheet pushed onto a channel's stack (R117). -/
def Menu.push (m : Menu) (sheet : Nat) : Menu := { m with stack := m.stack ++ [sheet] }

/-- A stack cut to its bottom entry (R118). -/
def Menu.cutHome (m : Menu) : Menu := { m with stack := m.stack.take 1 }

/-- The home sheet in use (R109). -/
def homeInUse (cfg : Configuration) (t : Tables) (c : Chan) : Nat :=
  if (cfg.chans.get c).home < t.sheets.length then (cfg.chans.get c).home else 0

/-- The initial toggle states of a menu table (R112, R120). -/
def initialToggles (sheets : List Sheet) : List (List Bool) :=
  sheets.map fun sh => sh.buttons.map fun b => b.kind == some .toggle && b.initialOn

/-- The initial selections of a menu table (R112, R120). -/
def initialChoices (sheets : List Sheet) : List (Option Nat) := sheets.map Sheet.initialChoice

/-- Steps 2 and 3 of R120: states to their initial values, and the stack cut below the first entry that no longer exists. -/
def Menu.afterTable (m : Menu) (sheets : List Sheet) : Menu :=
  { m with toggles := initialToggles sheets, choices := initialChoices sheets,
           stack := m.stack.takeWhile fun n => decide (n < sheets.length) }

/-- Step 4 of R120 and the rule of R121: a changed home sheet in use resets the stack. -/
def Menu.withHome (m : Menu) (home : Nat) : Menu := if m.home = home then m else { m with home := home, stack := [home] }

/-- The stack reset to [home] (R108, R121). -/
def Menu.toHome (m : Menu) : Menu := { m with stack := [m.home] }

end Sys2Proof.Machine
end

