-- ==== Sys2Proof/Machine/Tracking.lean ====
section
/-! DEFINITION. Collection of picks (R101 to R103), the PICK record (R99), the Claim Table (R124 to R127, R129), and tracking: its
start (R130), the cross update (R133 to R136) and its end (R138). -/

namespace Sys2Proof.Machine

/-! ### Collections -/

/-- A PICK checked against a collection before it is created (R102): its sequence position, whether its tag is a repeat, and the
collection after it. -/
def collectTag (k : Option Collection) (tag : Nat) : Nat × Bool × Option Collection :=
  match k with
  | none => (0, false, none)
  | some x =>
    match x.tags.idxOf? tag with
    | some i => (i + 1, true, some x)
    | none => (x.tags.length + 1, false, some { x with remaining := x.remaining - 1, tags := x.tags ++ [tag] })

/-- An active collection ended (R103): its SEQUENCE END record, and then it becomes inactive. -/
def State.endCollection (s : State) (c : Chan) (o : SeqOutcome) : State :=
  match (s.chan c).collection with
  | none => s
  | some k =>
    (s.record c {} (.sequenceEnd o k.requested k.tags)).andThen fun t => t.onChan c fun x => { x with collection := none }

/-- The PICK record of an element pick, its place in the collection (R99, R102), and the SEQUENCE END of a completed one. -/
def State.recordPick (s : State) (c : Chan) (k : Pick) (n : Notes) (tracking : Bool) : State :=
  let r := collectTag (s.chan c).collection k.tag
  let t := s.onChan c fun x => { x with collection := r.2.2 }
  (t.record c { n with echo := k.echo, again := r.2.1 }
      (.pick k (loftPoint t.tables k.group k.point) r.1 tracking)).andThen fun u =>
    if (r.2.2.map Collection.remaining) = some 0 then u.endCollection c .complete else u

/-! ### Leaving a state -/

/-- A channel leaves PRESSED: the press window and its record end (R93, R94). -/
def Channel.leavePressed (x : Channel) : Channel :=
  { x with windowCount := 0, windowFrames := 0, press := none, stage := .noStrike, windowResults := 0, windowEcho := false }

/-- A channel leaves CALIBRATING: no calibration state survives (R43). -/
def Channel.leaveCalibrating (x : Channel) : Channel :=
  { x with dotTag := none, measures := [], measured := false, budget := 0 }

/-- A channel goes to a state. -/
def Channel.goto (x : Channel) (m : Mode) : Channel := { x with mode := m }

/-- A MISS record of a channel's press window (R100). -/
def State.recordMiss (s : State) (c : Chan) (r : MissReason) (element : Option (Nat × Nat)) (echo : Bool) : State :=
  let x := s.chan c
  s.record c { echo := x.windowEcho || echo }
    (.miss r x.stage ((x.press.map Press.role).getD .tip) x.windowFrames x.windowResults element)

/-- The press window of a channel ends with a MISS record, and the channel goes to a state (R94, R131), or stays in PRESSED
for a later step of R26. -/
def State.missAndGo (s : State) (c : Chan) (r : MissReason) (element : Option (Nat × Nat)) (echo : Bool) (m : Mode) : State :=
  (s.recordMiss c r element echo).andThen fun t => t.onChan c fun x => x.leavePressed.goto m

/-! ### The Claim Table -/

/-- The holder of a tag (R124). -/
def holderOf (claims : List Claim) (tag : Nat) : Option Holder := (claims.find? fun k => k.tag == tag).map Claim.holder

/-- The claims without those of a channel's pen (R138). -/
def withoutPen (claims : List Claim) (c : Chan) : List Claim := claims.filter fun k => k.holder != .pen c

/-- The state with other claim entries. -/
def State.onClaims (s : State) (f : List Claim → List Claim) : State :=
  { s with claims := { s.claims with entries := f s.claims.entries } }

/-- A channel's ask set or cleared (R129). -/
def State.setAsk (s : State) (c : Chan) (a : Option Ask) : State :=
  { s with claims := { s.claims with asks := s.claims.asks.set c a } }

/-! ### Tracking -/

/-- A channel leaves TRACKING or SUSPENDED: no tracked element, loss count, duration or "echo in centre" survives (R138). The centre
stays (R156). -/
def Channel.leaveTracking (x : Channel) : Channel :=
  { x with tracked := none, loss := 0, duration := 0, echoInCentre := false }

/-- The TRACK END record of a channel and the removal of its claim, in one step (R138). The channel stays in its state with its tracked
element until a step of its own leaves it, so that its cross and its highlight change together (R153). -/
def State.closeTracking (s : State) (c : Chan) (r : EndReason) : State :=
  let x := s.chan c
  let e := x.tracked.getD (0, 0)
  (s.record c { echo := r == .lost && x.echoInCentre }
      (.trackEnd e.1 e.2 x.centre (loftPoint s.tables e.1 x.centre) r x.duration)).andThen fun t =>
    t.onClaims fun k => withoutPen k c

/-- The tracking of a channel ends for a reason, and the channel goes to WATCH (R138): DROPPED, LOST and RELEASED. Glare and disabling
leave the state at a later step of theirs (R26, R20). -/
def State.endTracking (s : State) (c : Chan) (r : EndReason) : State :=
  (s.closeTracking c r).andThen fun t => t.onChan c fun x => x.leaveTracking.goto .watch

/-- A channel goes to TRACKING on the element of a pick, in one step with the grant of its claim (R130): the claim joins the end
of the Claim Table and the qualification table is emptied. -/
def State.startTracking (s : State) (c : Chan) (k : Pick) : State :=
  (s.onClaims fun e => e ++ [⟨k.tag, .pen c⟩]).onChan c fun x =>
    { x.leavePressed with
      mode := .tracking, tracked := some (k.group, k.tag), centre := k.point, loss := 0, duration := 0,
      echoInCentre := k.echo, table := [] }

/-- The first RESOLVED result on an arm of the channel's cross (R134). -/
def armStrike (rs : List StrikeResult) (c : Chan) (arm : Nat) : Option (Hit × Bool) :=
  rs.findSome? fun r =>
    match r.verdict with
    | .resolved h => if h.group = 63 ∧ h.tag = armBase c + arm then some (h, r.echo) else none
    | .blank => none
    | .forbidden => none
    | .trailShort => none

/-- The new coordinate of one axis before clamping (R134): `plus` is the east or north arm's strike as start and struck
coordinate, `minus` the west or south arm's. -/
def axisUpdate (old : Nat) (plus minus : Option (Nat × Nat)) : Int :=
  match plus, minus with
  | none, none => old
  | some (s0, v), none => (s0 : Int) + ((v : Int) - (s0 : Int))
  | none, some (s1, v) => (s1 : Int) + ((v : Int) - (s1 : Int))
  | some (s0, v), some (s1, w) => (s0 : Int) + roundDiv (((v : Int) - (s0 : Int)) + ((w : Int) - (s1 : Int))) 2

/-- The start and struck x of an arm strike. -/
def Hit.alongX (h : Hit) : Nat × Nat := (h.start.x, h.point.x)

/-- The start and struck y of an arm strike. -/
def Hit.alongY (h : Hit) : Nat × Nat := (h.start.y, h.point.y)

/-- The cross update of one frame (R134, R135): the new centre, whether clamping changed a coordinate, the number of arms struck
and whether an arm strike used carried ECHO. -/
def crossUpdate (c : Chan) (centre : Point) (rs : List StrikeResult) : Point × Bool × Nat × Bool :=
  let arm := fun i => armStrike rs c i
  let x := axisUpdate centre.x ((arm 0).map fun h => h.1.alongX) ((arm 2).map fun h => h.1.alongX)
  let y := axisUpdate centre.y ((arm 1).map fun h => h.1.alongY) ((arm 3).map fun h => h.1.alongY)
  let struck := [arm 0, arm 1, arm 2, arm 3].filterMap id
  (⟨clampCoord x, clampCoord y⟩, decide ((clampCoord x : Int) ≠ x ∨ (clampCoord y : Int) ≠ y), struck.length,
    struck.any Prod.snd)

/-- The centre moved by an update, with its TRACK record; without a movement nothing is recorded (R135). -/
def State.moveCentre (s : State) (c : Chan) : State :=
  let x := s.chan c
  let u := crossUpdate c x.centre x.results
  if u.1 = x.centre then s
  else
    let e := x.tracked.getD (0, 0)
    (s.onChan c fun y => { y with centre := u.1, echoInCentre := u.2.2.2 }).record c { edge := u.2.1, echo := u.2.2.2 }
      (.track e.1 e.2 u.1 (loftPoint s.tables e.1 u.1) u.2.2.1)

/-- The frame-end work of a channel in TRACKING (R136, R137), to the point where a LOST end is owed. -/
def State.trackFrame (s : State) (c : Chan) : State :=
  let arms := (crossUpdate c (s.chan c).centre (s.chan c).results).2.2.1
  let t := s.onChan c fun x => { x with duration := min (x.duration + 1) Config.countMax }
  (t.moveCentre c).andThen fun u =>
    let v := u.onChan c fun x => { x with loss := if 0 < arms then 0 else x.loss + 1 }
    if !v.tipHeld c then v.endTracking c .dropped
    else if (v.chanConfig c).lossLimit ≤ (v.chan c).loss then
      { v with work := { v.work with owed := v.work.owed.set c (some .lost) } }
    else v

end Sys2Proof.Machine
end

