-- ==== Sys2Proof/Machine/Resolve.lean ====
section
/-! DEFINITION. Taking and resolving strikes: presentation to the Idle Monitor (R149, R150), taking (R22 to R24), measuring while
CALIBRATING (R37, R38), pending (R48 to R50), resolution (R53 to R60), and the delivery of echo strikes (R30). -/

namespace Sys2Proof.Machine

/-! ### The Idle Monitor -/

/-- The three kinds of event that reach the Idle Monitor (R150). -/
inductive IdleKind where
  | strike
  | penSwitch
  | consoleSwitch
deriving DecidableEq, Repr

/-- The wake and report flags of a kind (R150). -/
def Configuration.gate (cfg : Configuration) : IdleKind → WakeReport
  | .strike => cfg.strikeGate
  | .penSwitch => cfg.penGate
  | .consoleSwitch => cfg.consoleGate

/-- An event presented to the Idle Monitor in RUNNING: whether it is passed on, and the state after it (R149, R150). -/
def State.present (s : State) (k : IdleKind) : Bool × State :=
  if s.idle.dim then
    let g := s.config.gate k
    (g.report, if g.wake then { s with idle := ⟨false, 0⟩ } else s)
  else (true, { s with idle := ⟨false, 0⟩ })

/-! ### Candidates -/

/-- Whether an entry is examined for a strike and is a candidate, with its offset and clamped time: its begin is at or before h
and its offset is W or less (R54). Every examined entry is ended at completion (R50); an unended one is none. -/
def candidate (w : Nat) (k : Strike) (e : Entry) : Option (Entry × Nat × Nat × Nat) :=
  match e.ended with
  | none => none
  | some f =>
    let o := offsetAndTime k.tc e.begun f
    if e.begun ≤ k.h ∧ o.1 ≤ w then some (e, f, o.1, o.2) else none

/-- Whether a candidate standing later in the trail comes before an earlier one in the ranking of R58: smaller offset, then
higher pick class, then later begin, then later position. -/
def betterCandidate (t : Tables) (early late : Entry × Nat × Nat × Nat) : Bool :=
  let ce := t.pickClass early.1.group
  let cl := t.pickClass late.1.group
  if early.2.2.1 ≠ late.2.2.1 then decide (late.2.2.1 < early.2.2.1)
  else if ce ≠ cl then decide (ce < cl)
  else decide (early.1.begun ≤ late.1.begun)

/-- The winner of a list of candidates in trail order (R58). -/
def bestCandidate (t : Tables) : List (Entry × Nat × Nat × Nat) → Option (Entry × Nat × Nat × Nat)
  | [] => none
  | x :: xs => some (xs.foldl (fun best y => if betterCandidate t best y then y else best) x)

/-- The fields of a RESOLVED result on a winning candidate (R46, R59, R60). -/
def hitOn (k : Entry × Nat × Nat × Nat) : Hit :=
  let e := k.1
  let d := k.2.1 - e.begun
  let n := k.2.2.2 - e.begun
  ⟨e.group, e.tag, e.index, vectorPosition n d, alongVector e n d, k.2.2.1, e.start⟩

/-- Whether the trail is too short for a strike: entries have been dropped and the oldest left began after t_c − W (R53). -/
def trailShort (b : Beam) (w tc : Nat) : Bool :=
  b.dropped &&
    match b.trail.head? with
    | none => false
    | some e => decide (tc < e.begun + w)

/-- The verdict on a strike that completes with the state as it stands (R53 to R58). -/
def State.resolve (s : State) (c : Chan) (k : Strike) : Verdict :=
  let w := (s.chanConfig c).aperture
  if trailShort s.beam w k.tc then .trailShort
  else
    let near := s.beam.trail.filterMap (candidate w k)
    if near.isEmpty then .blank
    else
      match bestCandidate s.tables (near.filter fun x => s.permits s.claims.entries c x.1.group x.1.tag) with
      | none => .forbidden
      | some x => .resolved (hitOn x)

/-- A result joins a channel's frame strike results (R51). -/
def State.addResult (s : State) (c : Chan) (r : StrikeResult) : State :=
  s.onChan c fun x => { x with results := x.results ++ [r] }

/-- Every pending strike of a channel completes, in the order taken (R51). No resolution changes what another reads, so each is
resolved against the state as the note left it. -/
def State.completePending (s : State) (c : Chan) : State :=
  s.onChan c fun x =>
    { x with
      results := x.results ++ x.pendingStrikes.map fun k => ⟨s.resolve c k, k.echo⟩
      pendingStrikes := [] }

/-- Every pending strike of both channels completes (R11, R13, R7). -/
def State.completeBoth (s : State) : State := (s.completePending .a).completePending .b

/-! ### Taking a strike -/

/-- The newest trail entry with the dot tag whose begin lies in [t_s − 511, t_s] (R37). -/
def dotEntry (trail : List Entry) (dot ts : Nat) : Option Entry :=
  trail.reverse.find? fun e => e.tag == dot && decide (e.begun ≤ ts ∧ ts ≤ e.begun + Config.measureReach)

/-- A strike measured by a CALIBRATING channel (R37, R38). -/
def State.measure (s : State) (c : Chan) (ts : Nat) (echo : Bool) : State :=
  match (s.chan c).dotTag.bind fun dot => dotEntry s.beam.trail dot ts with
  | none => s
  | some e =>
    if (s.chan c).measured then s
    else s.onChan c fun x => { x with measures := x.measures ++ [⟨ts - e.begun, echo⟩], measured := true }

/-- Whether the trail holds an unended entry begun at or before a window end (R15, R50). -/
def waitsOn (trail : List Entry) (h : Nat) : Bool := trail.any fun e => e.ended.isNone && decide (e.begun ≤ h)

/-- A strike taken in WATCH, PRESSED or TRACKING (R48 to R50): BLANK before the frame began, pending on the vector being drawn,
or resolved at once. -/
def State.takeStrike (s : State) (c : Chan) (ts : Nat) (echo : Bool) : State :=
  let d := (s.chan c).delay
  if ts < d then s.addResult c ⟨.blank, echo⟩
  else
    let k : Strike := ⟨ts - d, windowEnd (ts - d) (s.chanConfig c).aperture ts, echo⟩
    if waitsOn s.beam.trail k.h then s.onChan c fun x => { x with pendingStrikes := x.pendingStrikes ++ [k] }
    else s.addResult c ⟨s.resolve c k, echo⟩

/-- Whether a channel that meets a strike the Idle Monitor has passed takes it (R22, R23). -/
def State.takes (s : State) (c : Chan) : Bool :=
  s.regs.device == .running && s.beam.isOpen &&
    ((s.chan c).mode == .watch || (s.chan c).mode == .pressed || (s.chan c).mode == .calibrating ||
      (s.chan c).mode == .tracking) &&
    decide ((s.chan c).strikes < Config.strikesMax)

/-- A strike of a channel with arrival time `ts` (R22 to R24): presented to the Idle Monitor by an enabled channel, and taken if
all holds. -/
def State.meetStrike (s : State) (c : Chan) (ts : Nat) (echo : Bool) : State :=
  if s.regs.device = .running ∧ (s.chan c).mode.enabled then
    match s.present .strike with
    | (false, t) => t
    | (true, t) =>
      if t.takes c then
        let u := t.onChan c fun x => { x with strikes := x.strikes + 1 }
        if (u.chan c).mode = .calibrating then u.measure c ts echo else u.takeStrike c ts echo
      else t
  else s

/-- The selected edge on a channel's strike line (R21, R25): the line stands at its active level, an enabled channel outside
GLARE starts its glare timer at 0, and the strike is met with the frame clock as its arrival time. In HALTED only the pin
moves (R32). -/
def State.strikeEdge (s : State) (c : Chan) : State :=
  let t := s.onChan c fun x => { x with lineHigh := (s.chanConfig c).edge.activeHigh }
  if s.regs.device = .running ∧ (t.chan c).mode.enabled then
    (t.onChan c fun x => { x with glareTimer := if x.mode = .glare then x.glareTimer else some 0 }).meetStrike c
      s.beam.clock false
  else t

/-! ### Echo strikes -/

/-- The time of a channel's due echo. -/
def Echo.dueTime : Echo → Option Nat
  | .none => .none
  | .scheduled _ => .none
  | .due t => some t

/-- A due echo met at its time: it is gone, and the frame clock has reached T (R30, log entry 10). -/
def State.meetEcho (s : State) (c : Chan) (t : Nat) : State :=
  ({ s.onChan c (fun x => { x with echo := .none }) with beam := { s.beam with clock := max s.beam.clock t } }).meetStrike c t
    true

/-- The echo of a channel met if it falls due before a time of the frame clock. -/
def State.echoBefore (s : State) (c : Chan) (t : Nat) : State :=
  match (s.chan c).echo.dueTime with
  | none => s
  | some u => if u < t then s.meetEcho c u else s

/-- The delivery of a channel's due echo in an open frame (R30). The frame clock passes an earlier echo of the other channel on
its way. -/
def State.deliverEcho (s : State) (c : Chan) : State :=
  if s.regs.device = .running ∧ s.beam.isOpen then
    match (s.chan c).echo.dueTime with
    | none => s
    | some t => (s.echoBefore (otherChan c) t).meetEcho c t
  else s

/-- The frame clock runs on to its last value and holds there (R3). Echoes due on the way are delivered, the earlier first
(R30). -/
def State.saturate (s : State) : State :=
  if s.regs.device = .running ∧ s.beam.isOpen then
    let first := if ((s.chan .b).echo.dueTime.getD Config.clockMax) < ((s.chan .a).echo.dueTime.getD Config.clockMax) then
      Chan.b else Chan.a
    let t := (s.deliverEcho first).deliverEcho (otherChan first)
    { t with beam := { t.beam with clock := Config.clockMax } }
  else s

/-- A due echo that the frame clock has not reached lapses at the close of its frame (R7, R30). -/
def Channel.lapseDue (x : Channel) : Channel :=
  match x.echo with
  | .none => x
  | .scheduled _ => x
  | .due _ => { x with echo := .none }

/-- A scheduled echo becomes due in the frame that a FRAME START opens (R30). -/
def Channel.echoFallsDue (x : Channel) : Channel :=
  match x.echo with
  | .none => x
  | .scheduled t => { x with echo := .due t }
  | .due _ => x

end Sys2Proof.Machine
end

