-- ==== Sys2Proof/Machine/Qualify.lean ====
section
/-! DEFINITION. Qualification and pick formation (06_qualification_and_pick_formation.md): sightings (R83, R84), the qualification
table (R86, R87), the pick (R97, R98), the asks to the Claim Table and their decision (R128 to R131), and the end of a calibration
(R39 to R44). -/

namespace Sys2Proof.Machine

/-! ### Sightings and the table -/

/-- A sighting with the pair it is keyed by (R83, R84). -/
structure Seen where
  group : Nat
  tag : Nat
  sighting : Sighting
deriving DecidableEq, Repr

/-- Whether a list of sightings holds one of a pair. -/
def findSeen (set : List Seen) (g t : Nat) : Option Seen := set.find? fun x => x.group == g && x.tag == t

/-- The sighting of a RESOLVED result (R84). -/
def seenOf (r : StrikeResult) : Option Seen :=
  match r.verdict with
  | .resolved h => some ⟨h.group, h.tag, ⟨h.point, h.index, h.p, h.offset, r.echo⟩⟩
  | .blank => none
  | .forbidden => none
  | .trailShort => none

/-- The sighting set of a frame's results: one for each pair, the first result of a pair giving its sighting (R83). -/
def sightingSet (rs : List StrikeResult) : List Seen :=
  (rs.filterMap seenOf).foldl (fun acc x => if (findSeen acc x.group x.tag).isSome then acc else acc ++ [x]) []

/-- The first step of the update: one frame appended to a history of at most M frames (R86). -/
def Qual.append (m : Nat) (set : List Seen) (q : Qual) : Qual :=
  let h := q.history ++ [(findSeen set q.group q.tag).map Seen.sighting]
  { q with history := h.drop (h.length - m) }

/-- Whether an entry standing later in the table is evicted before an earlier one (R87): unconfirmed before confirmed, then the
fewer sightings; the earlier goes on a tie. -/
def evictedBefore (k : Nat) (early late : Qual) : Bool :=
  if early.confirmed k ≠ late.confirmed k then early.confirmed k
  else decide (late.sightings.length < early.sightings.length)

/-- The position of the entry a full table gives up (R87): the best position so far, the entry there, and the next position. -/
def evictFrom (k : Nat) : List Qual → Nat → Qual → Nat → Nat
  | [], at_, _, _ => at_
  | q :: qs, at_, worst, next =>
    if evictedBefore k worst q then evictFrom k qs next q (next + 1) else evictFrom k qs at_ worst (next + 1)

/-- A full table with one entry removed to make room (R87). -/
def makeRoom (k : Nat) (table : List Qual) : List Qual :=
  if table.length < Config.tableMax then table
  else
    match table with
    | [] => []
    | q :: qs => (q :: qs).eraseIdx (evictFrom k qs 0 q 1)

/-- A new entry appended for a pair (R87). -/
def addSeen (k : Nat) (table : List Qual) (x : Seen) : List Qual :=
  makeRoom k table ++ [⟨x.group, x.tag, [some x.sighting], false⟩]

/-- The three steps of the update of a qualification table at a frame end (R86). -/
def updateTable (m k : Nat) (set : List Seen) (table : List Qual) : List Qual :=
  let kept := (table.map (Qual.append m set)).filter fun q => !q.sightings.isEmpty
  let fresh := set.filter fun x => !(kept.any fun q => q.group == x.group && q.tag == x.tag)
  fresh.foldl (addSeen k) kept

/-- A channel's table updated from its frame strike results (R83, R86). -/
def State.updateQual (s : State) (c : Chan) : State :=
  let cc := s.chanConfig c
  s.onChan c fun x => { x with table := updateTable cc.m cc.k (sightingSet x.results) x.table }

/-! ### Picks -/

/-- The pick formed from an entry with a trigger (R97). -/
def Qual.toPick (q : Qual) (trig : Trigger) : Pick :=
  let ss := q.sightings
  let last := ss.getLast?
  { group := q.group
    tag := q.tag
    point := ⟨meanRounded (ss.map fun x => x.point.x), meanRounded (ss.map fun x => x.point.y)⟩
    index := (last.map Sighting.index).getD 0
    p := (last.map Sighting.p).getD 0
    sightings := ss.length
    trigger := trig
    echo := ss.any Sighting.echo }

/-- The fired flag of the entry of a pair set (R96, R98). -/
def fireEntry (table : List Qual) (g t : Nat) : List Qual :=
  table.map fun q => if q.group = g ∧ q.tag = t then { q with fired := true } else q

/-- A button pick handed to the Menu Engine, and then, once its MENU record has been created, its entry's fired flag set (R98,
R110). -/
def State.pickButton (s : State) (c : Chan) (k : Pick) : State :=
  (s.buttonPick c k.tag k.trigger k.echo).andThen fun t =>
    t.onChan c fun x => { x with table := fireEntry x.table k.group k.tag }

/-- An element pick (R98): the Menu Engine is told, the Claim Table is asked when the conditions of R128 hold, and otherwise the
PICK record is created and the channel goes to WATCH. -/
def State.pickElement (s : State) (c : Chan) (k : Pick) : State :=
  (s.disarm c .pick).andThen fun t =>
    match (t.chan c).press with
    | some pr =>
      if t.tables.draggable k.group && t.tipHeld c then t.setAsk c (some ⟨k, pr⟩)
      else (t.recordPick c k {} false).andThen fun u => u.onChan c fun x => x.leavePressed.goto .watch
    | none => (t.recordPick c k {} false).andThen fun u => u.onChan c fun x => x.leavePressed.goto .watch

/-- The buttons-on-sight rule at a frame end in WATCH (R96). -/
def State.sightPick (s : State) (c : Chan) : State :=
  if (s.chanConfig c).buttonsOnSight then
    match bestQual s.tables ((s.eligible s.closeClaims c).filter fun q => q.group == menuGroup c && !q.fired) with
    | none => s
    | some q => s.pickButton c (q.toPick .sight)
  else s

/-- The window stage, results and echo raised by a frame's results, and the frame end counted (R92, R100). -/
def Channel.countWindow (x : Channel) : Channel :=
  { x with
    stage := x.results.foldl (fun g r => g.further r.verdict.stage) x.stage
    windowResults := x.windowResults + x.results.length
    windowEcho := x.windowEcho || x.results.any StrikeResult.echo
    windowFrames := x.windowFrames + 1 }

/-- A frame end of the press window without a pick: the count falls by 1, and at 0 a MISS is owed (R94). -/
def State.windowFalls (s : State) (c : Chan) : State :=
  let t := s.onChan c fun x => { x with windowCount := x.windowCount - 1 }
  if (t.chan c).windowCount = 0 then { t with work := { t.work with owed := t.work.owed.set c (some .miss) } } else t

/-- The frame-end work of a channel in PRESSED (R92 to R94, R98). -/
def State.pressedFrame (s : State) (c : Chan) : State :=
  let t := (s.onChan c Channel.countWindow).updateQual c
  match bestQual t.tables (t.eligible t.closeClaims c) with
  | none => t.windowFalls c
  | some q =>
    let k := q.toPick (((t.chan c).press.map fun p => p.role.trigger).getD .tip)
    if k.group = 61 ∨ k.group = 62 then
      (t.pickButton c k).andThen fun u => u.onChan c fun x => x.leavePressed.goto .watch
    else t.pickElement c k

/-! ### The decision of asks -/

/-- The answer of the Claim Table to an ask (R129). -/
inductive Answer where
  | granted
  | contested
  | full
deriving DecidableEq, Repr

/-- The answer to one ask against the table as it stands (R129, cases 2 and 3). -/
def answerOne (claims : List Claim) (k : Ask) : Answer :=
  if (holderOf claims k.pick.tag).isSome then .contested
  else if claims.length < Config.claimsMax then .granted else .full

/-- A granted ask joins the table and puts its channel in TRACKING, in one step (R130); its highlight is chosen with that (R155). -/
def State.grant (s : State) (c : Chan) (k : Ask) (r : Answer) : State :=
  match r with
  | .granted => (s.startTracking c k.pick).choose s.closeClaims c
  | .contested => s
  | .full => s

/-- What a channel does once it has learned its answer, a granted channel having gone to TRACKING in the grant (R130, R131). -/
def State.afterAnswer (s : State) (c : Chan) (k : Ask) (r : Answer) : State :=
  let t := s.setAsk c none
  (match r with
    | .granted => t.recordPick c k.pick {} true
    | .full => (t.recordPick c k.pick { noTrack := true } false).andThen fun u => u.onChan c fun x => x.leavePressed.goto .watch
    | .contested =>
      match (t.chanConfig c).contest with
      | .pickOnly =>
        (t.recordPick c k.pick { contested := true } false).andThen fun u => u.onChan c fun x => x.leavePressed.goto .watch
      | .refuse => t.missAndGo c .contested (some (k.pick.group, k.pick.tag)) k.pick.echo .watch).andThen fun u =>
    u.choose u.closeClaims c

/-- The decision of the asks of a frame end, together (R129): a lone ask, or both in order of press. DESIGN CHOICE (log entry 21): each
ask leaves the Claim Table with its own channel's answer, so that a bus error on the first channel's record leaves the other's ask,
though decided, in the table frozen in HALTED. -/
def State.decideAsks (s : State) : State :=
  match s.claims.asks.a, s.claims.asks.b with
  | none, none => s
  | some k, none => (s.grant .a k (answerOne s.claims.entries k)).afterAnswer .a k (answerOne s.claims.entries k)
  | none, some k => (s.grant .b k (answerOne s.claims.entries k)).afterAnswer .b k (answerOne s.claims.entries k)
  | some ka, some kb =>
    let aFirst := pressAFirst s.beam.frame ka.press kb.press
    let r1 := answerOne s.claims.entries (if aFirst then ka else kb)
    let t := if aFirst then s.grant .a ka r1 else s.grant .b kb r1
    let r2 := if ka.pick.tag = kb.pick.tag then Answer.contested
      else answerOne t.claims.entries (if aFirst then kb else ka)
    let u := if aFirst then t.grant .b kb r2 else t.grant .a ka r2
    let ra := if aFirst then r1 else r2
    let rb := if aFirst then r2 else r1
    u.eachChan fun c v =>
      match c with
      | .a => v.afterAnswer .a ka ra
      | .b => v.afterAnswer .b kb rb

/-! ### Calibration -/

/-- The end of a calibration with an outcome (R44): its record, the last calibration result, and the channel's next state, which
for glare and disabling is the one it is in (R20, R26). The record shows the working delay as it stands, which for SET is the middle
value already (R40). -/
def State.endCalibration (s : State) (c : Chan) (o : CalOutcome) (m : Mode) : State :=
  let x := s.chan c
  let mid := middleTicks x.measures
  (s.record c { echo := x.measures.any Measure.echo }
      (.calibration o (x.dotTag.getD 0) x.measures.length (leastTicks x.measures) (mostTicks x.measures) mid x.delay
        (Config.calibrationFrames - x.budget))).andThen fun t =>
    t.onChan c fun y => { y.leaveCalibrating.goto m with lastCal := some (o, mid.getD 0) }

/-- Whether the measurements of a calibration agree (R40). -/
def steady (ms : List Measure) : Bool := decide ((mostTicks ms).getD 0 - (leastTicks ms).getD 0 ≤ Config.spreadMax)

/-- A calibration that holds its eight measurements finishes (R40): where they agree, the working delay becomes their middle value and
the calibration ends with SET, its record coming after; where they do not, it ends with UNSTEADY. -/
def State.finishCalibration (s : State) (c : Chan) : State :=
  let ms := (s.chan c).measures
  if steady ms then (s.onChan c fun x => { x with delay := (middleTicks ms).getD x.delay }).endCalibration c .set .watch
  else s.endCalibration c .unsteady .watch

/-- The frame-end work of a CALIBRATING channel (R39), to the point where a TOO FEW end is owed. -/
def State.calibrationFrame (s : State) (c : Chan) : State :=
  let t := s.onChan c fun x => { x with budget := x.budget - 1 }
  if Config.measuresMax ≤ (t.chan c).measures.length then t.finishCalibration c
  else if (t.chan c).budget = 0 then { t with work := { t.work with owed := t.work.owed.set c (some .tooFew) } }
  else t

end Sys2Proof.Machine
end

