-- ==== Sys2Proof/Machine/FrameEnd.lean ====
section
/-! DEFINITION. The close of a frame and its frame end (R6 to R9): what the close does at once, each channel's frame-end work, the
steps that the table lists on their own rows and that the work leaves owed (MISS, LOST, TOO FEW, GLARE REMINDER, CONFIRM EXPIRY,
BLINK PERIOD END, ASK DECISION), and the status write that ends it (log entry 4). -/

namespace Sys2Proof.Machine

/-- A trail entry ended at a time, if it is unended. -/
def Entry.endAt (t : Nat) (e : Entry) : Entry := if e.ended.isNone then { e with ended := some t } else e

/-- The newest entry of a trail ended at a time, if it is unended (R7, R11, R13). -/
def endNewest (t : Nat) (trail : List Entry) : List Entry :=
  match trail.getLast? with
  | none => trail
  | some e => trail.dropLast ++ [e.endAt t]

/-- Whether the newest entry of a trail is unended. -/
def newestUnended (trail : List Entry) : Bool := (trail.getLast?.map fun e => e.ended.isNone).getD false

/-- A step owed by a channel's frame-end work, set or cleared. -/
def State.owe (s : State) (c : Chan) (o : Option Owed) : State :=
  { s with work := { s.work with owed := s.work.owed.set c o } }

/-- The frame-end work of a channel in GLARE (R27), to the point where a reminder is owed. -/
def State.glareFrame (s : State) (c : Chan) : State :=
  let t := s.onChan c fun x =>
    { x with
      glareFrames := min (x.glareFrames + 1) Config.countMax
      reminderPhase := (x.reminderPhase + 1) % Config.reminderFrames }
  if (t.chan c).reminderPhase = 0 then t.owe c (some .reminder) else t

/-- The frame-end work of a channel by its state (R27, R39, R86, R92, R96, R137, R140). -/
def State.modeFrame (s : State) (c : Chan) : State :=
  match (s.chan c).mode with
  | .off => s
  | .watch => (s.updateQual c).sightPick c
  | .pressed => s.pressedFrame c
  | .calibrating => s.calibrationFrame c
  | .tracking => s.trackFrame c
  | .suspended => s.onChan c fun x => { x with duration := min (x.duration + 1) Config.countMax }
  | .glare => s.glareFrame c

/-- A channel's frame-end work, its confirm countdown (R114) and the choice of its highlight (R155). -/
def State.chanFrame (c : Chan) (s : State) : State :=
  ((s.modeFrame c).andThen fun t => t.lowerCountdown c (s.menu c).armed).andThen fun t => t.choose t.closeClaims c

/-- Whether a frame end in progress has nothing left but its status write. -/
def State.frameDone (s : State) : Bool :=
  s.work.active && s.work.owed.a.isNone && s.work.owed.b.isNone && !s.work.expiry.a && !s.work.expiry.b && !s.work.period &&
    s.claims.asks.a.isNone && s.claims.asks.b.isNone

/-- The end of a frame end once nothing is left: the status section is written and the claims at the close are discarded (R79,
R181). -/
def State.finishFrame (s : State) : State :=
  if s.frameDone then
    s.writeStatus.2.andThen fun t =>
      { t with work := FrameWork.none, claims := { t.claims with atClose := none } }
  else s

/-- What the close of a frame does before any frame-end work (R7, R8, R79): the newest entry ended, every pending strike
resolved, the over-long flag decided, the frame CLOSED, due echoes lapsed, the claims at the close kept. -/
def State.closeTrail (s : State) : State :=
  let t := { s with beam := { s.beam with trail := endNewest s.beam.clock s.beam.trail } }.completeBoth
  { t with
    beam := { t.beam with overLong := decide (t.beam.clock = Config.clockMax), isOpen := false }
    chans := ⟨t.chans.a.lapseDue, t.chans.b.lapseDue⟩
    claims := { t.claims with atClose := some t.claims.entries, asks := ⟨none, none⟩ }
    work := ⟨true, ⟨none, none⟩, ⟨false, false⟩, false⟩ }

/-- The close of an OPEN frame with its frame end, to the point where only owed steps are left (R7, R9). DESIGN CHOICE (log entry 4):
the work of both channels, a DROPPED end's removal of its claim included, comes before the decision of the asks, so that a claim
so removed leaves its place free (R129 waits for no channel in TRACKING); an arming comes before an expiry that is left owed
(R158 lets either go first); and the blink count is raised before the work of the channels, to which R9 and R159 give it no order (it
shows in the phase frozen in HALTED after a bus error in that work). DESIGN CHOICE (log entry 3): R9 lets the records of A and of B
come in either order; here the records that one channel's work makes at once stand before those of the other's, and every record of
an owed step or of an answered ask, of either channel, stands after both. -/
def State.closeFrame (s : State) : State :=
  (s.closeTrail.countBlink.eachChan State.chanFrame).andThen State.finishFrame

/-! ### The owed steps -/

/-- The GLARE REMINDER step (R27). -/
def State.doReminder (s : State) (c : Chan) : State :=
  let t := (s.owe c none).onChan c fun x => { x with reminders := min (x.reminders + 1) Config.countMax }
  t.record c {} (.glare (t.chan c).reminders)

/-- The TOO FEW step (R41). -/
def State.doTooFew (s : State) (c : Chan) : State := (s.owe c none).endCalibration c .tooFew .watch

/-- The MISS step (R94). -/
def State.doMiss (s : State) (c : Chan) : State :=
  (s.owe c none).missAndGo c (.stage (s.chan c).stage) none false .watch

/-- The LOST step (R137). -/
def State.doLost (s : State) (c : Chan) : State := (s.owe c none).endTracking c .lost

/-- The step a channel owes, then the choice of its highlight (R155). -/
def State.doOwed (s : State) (c : Chan) : State :=
  match s.work.owed.get c with
  | none => s
  | some o =>
    (match o with
      | .reminder => s.doReminder c
      | .tooFew => s.doTooFew c
      | .miss => s.doMiss c
      | .lost => s.doLost c).andThen fun t => t.choose t.closeClaims c

/-- One owed step of a kind, if it is what the channel owes, and the end of the frame end if it was the last. -/
def State.stepOwed (s : State) (c : Chan) (o : Owed) : State :=
  if s.regs.device = .running ∧ s.work.owed.get c = some o then (s.doOwed c).andThen State.finishFrame else s

/-- The CONFIRM EXPIRY step (R114): after every record the channel itself creates at the frame end. DESIGN CHOICE (log entry 4): it
follows both channels' work, so that a button the other channel arms at this frame end finds the generator still RUNNING, one of
the two orders R158 allows. -/
def State.doExpiry (s : State) (c : Chan) : State :=
  ({ s with work := { s.work with expiry := s.work.expiry.set c false } }).disarm c .expired |>.andThen fun t =>
    t.choose t.closeClaims c

/-- The CONFIRM EXPIRY step of a channel whose own step is no longer owed. -/
def State.stepExpiry (s : State) (c : Chan) : State :=
  if s.regs.device = .running ∧ s.work.expiry.get c then
    ((s.doOwed c).andThen fun t => t.doExpiry c).andThen State.finishFrame
  else s

/-- The BLINK PERIOD END step (R159, R160): k returns to 0 and pending values are adopted. A generator that has stopped since
has discarded its count. -/
def State.doPeriod (s : State) : State :=
  let t := { s with work := { s.work with period := false } }
  if s.feedback.blink = some s.feedback.period then
    { t with feedback := { t.feedback with blink := some 0 }.adopt }
  else t

/-- The BLINK PERIOD END step, if it is owed. -/
def State.stepPeriod (s : State) : State :=
  if s.regs.device = .running ∧ s.work.period then s.doPeriod.finishFrame else s

/-- A channel's owed steps, in their order. -/
def State.settleChan (c : Chan) (s : State) : State :=
  (s.doOwed c).andThen fun t => if t.work.expiry.get c then t.doExpiry c else t

/-- Every owed step of a frame end but the decision of its asks. A command that could meet a channel's state done first what the
frame end owes (log entry 4). DESIGN CHOICE (log entry 3): all that one channel owes goes before all that the other owes, in the order
of the free value, where R9 lets their records come in either order; and the records made here stand after every record that either
channel's work made at the close. -/
def State.settle (s : State) : State :=
  if s.regs.device = .running ∧ s.work.active then
    ((s.eachChan State.settleChan).andThen fun t => if t.work.period then t.doPeriod else t).andThen State.finishFrame
  else s

/-- The ASK DECISION step (R129): once every channel's ask or no-ask is in, which the close has seen to. -/
def State.stepAsks (s : State) : State :=
  if s.regs.device = .running ∧ (s.claims.asks.a.isSome ∨ s.claims.asks.b.isSome) then
    s.decideAsks.andThen State.finishFrame
  else s

/-- The whole rest of a frame end: a beam note is handled whole before the next (R2), and a frame end's work is done before a
glare onset takes effect (R26). -/
def State.settleAll (s : State) : State := s.settle.andThen State.stepAsks

end Sys2Proof.Machine
end

