-- ==== Sys2Proof/Machine/Layout.lean ====
section
/-! DEFINITION. The layouts of the header and of the four tables, and the validation of a table copy (section 12.2 of
12_the_common_area.md; R72, R74, R106, R107, R146, R176). A table copy is the list of its bytes. -/

namespace Sys2Proof.Machine

/-! ### Where the tables stand (R172) -/

/-- The offset of a table in the common area. -/
def tableOffset : TableId → Nat
  | .config => 0x100
  | .group => 0x200
  | .view => 0x300
  | .menu => 0x400

/-- The length of a table in bytes. -/
def tableLength : TableId → Nat
  | .config => 256
  | .group => 256
  | .view => 256
  | .menu => 16 + 32 * 136

/-- The offset of a table's revision in the header. -/
def revisionOffset : TableId → Nat
  | .config => 0x04
  | .group => 0x08
  | .view => 0x0C
  | .menu => 0x10

/-- The four tables in the order of the status section. -/
def allTables : List TableId := [.config, .group, .view, .menu]

/-! ### Fields of a copy -/

/-- The byte field at an offset of a copy. -/
def u8 (img : List Byte) (i : Nat) : Nat := (img.getD i 0).toNat

/-- The 16-bit field at an offset of a copy. -/
def u16 (img : List Byte) (i : Nat) : Nat := ofBytes ((img.drop i).take 2)

/-- The 32-bit two's complement field at an offset of a copy. -/
def i32 (img : List Byte) (i : Nat) : Int := signed32 (ofBytes ((img.drop i).take 4))

/-- Bit `b` of the byte field at an offset of a copy. -/
def bitAt (img : List Byte) (i b : Nat) : Bool := (img.getD i 0).getLsbD b

/-- A field judged (R176): the value if it is in its range, else the default, and whether it counts as a defaulted field. -/
def judge {α : Type} (inRange : Bool) (v d : α) : α × Nat := if inRange then (v, 0) else (d, 1)

/-- A count of defaulted fields as the last load outcome holds it, 0 to 255 (R176). -/
def defaultedCount (n : Nat) : Nat := min n 255

/-! ### The configuration table -/

/-- An edge by its code (0 RISING, 1 FALLING). -/
def edgeOf (n : Nat) : Edge := if n = 1 then .falling else .rising

/-- A trigger source by its code (0 TIP, 1 FOOT, 2 EITHER). -/
def triggerOf (n : Nat) : TriggerSource := if n = 1 then .foot else if n = 2 then .either else .tip

/-- A guard direction by its code (0 NONE, 1 UPPER, 2 LOWER, 3 ALL). -/
def guardOf (n : Nat) : GuardDir := if n = 1 then .upper else if n = 2 then .lower else if n = 3 then .all else .none

/-- A contest outcome by its code (0 PICK ONLY, 1 REFUSE). -/
def contestOf (n : Nat) : ContestRule := if n = 1 then .refuse else .pickOnly

/-- An assignment judged alone: 0 to 7 or NONE as written, else its default (R146). -/
def assignment (v : Nat) (d : Option (Fin 8)) : Option (Fin 8) × Nat :=
  if h : v < 8 then (some ⟨v, h⟩, 0) else if v = 0xFF then (none, 0) else (d, 1)

/-- The four assignments checked for repeats in their order (R146): one naming an input that an earlier one names becomes NONE. A
field that is changed counts once (log entry 14). -/
def checkRepeats : List (Option (Fin 8) × Nat) → List (Fin 8) → List (Option (Fin 8)) × Nat
  | [], _ => ([], 0)
  | (none, n) :: rest, named =>
    let r := checkRepeats rest named
    (none :: r.1, n + r.2)
  | (some i, n) :: rest, named =>
    if named.contains i then
      let r := checkRepeats rest named
      (none :: r.1, 1 + r.2)
    else
      let r := checkRepeats rest (i :: named)
      (some i :: r.1, n + r.2)

/-- A channel's block at an offset of the copy, but for its assignments, and its count of defaulted fields (section 12.2). -/
def channelBlock (img : List Byte) (o : Nat) : ChannelConfig × Nat :=
  let b := fun i => u8 img (o + i)
  let enable := judge (b 0 ≤ 1) (b 0 == 1) false
  let cable := judge (b 1 ≤ 3) (b 1) 0
  let edge := judge (b 2 ≤ 1) (edgeOf (b 2)) .rising
  let trigger := judge (b 3 ≤ 2) (triggerOf (b 3)) .tip
  let ovr := judge (u16 img (o + 4) ≤ 511) (u16 img (o + 4)) 0
  let glare := judge (4 ≤ b 7 && b 7 ≤ 250) (b 7) 60
  let m := judge (1 ≤ b 8 && b 8 ≤ 15) (b 8) 6
  let k := judge (1 ≤ b 9 && b 9 ≤ m.1) (b 9) (min 3 m.1)
  let window := judge (1 ≤ b 10 && b 10 ≤ 15) (b 10) 8
  let sight := judge (b 11 ≤ 1) (b 11 == 1) false
  let home := judge (b 12 ≤ 31) (b 12) 0
  let dir := judge (b 13 ≤ 3) (guardOf (b 13)) .none
  let e := judge (b 14 ≤ 16) (b 14) 0
  let locked := judge (b 15 ≤ 1) (b 15 == 1) false
  let contest := judge (b 16 ≤ 1) (contestOf (b 16)) .pickOnly
  let loss := judge (1 ≤ b 17 && b 17 ≤ 15) (b 17) 4
  let l := judge (8 ≤ u16 img (o + 18) && u16 img (o + 18) ≤ 256) (u16 img (o + 18)) 32
  ({ enable := enable.1, cableClass := cable.1, edge := edge.1, trigger := trigger.1, delayOverride := ovr.1,
     aperture := b 6, glareThreshold := glare.1, m := m.1, k := k.1, pressWindow := window.1, buttonsOnSight := sight.1,
     home := home.1, guardDir := dir.1, guardExp := e.1, startLocked := locked.1, contest := contest.1, lossLimit := loss.1,
     armLength := l.1, tip := none, foot := none },
   enable.2 + cable.2 + edge.2 + trigger.2 + ovr.2 + glare.2 + m.2 + k.2 + window.2 + sight.2 + home.2 + dir.2 + e.2 +
     locked.2 + contest.2 + loss.2 + l.2)

/-- The wake flag at a bit of the flags byte and the report flag at the bit above (section 12.2). -/
def gateAt (img : List Byte) (bit : Nat) : WakeReport := ⟨bitAt img 0x45 bit, bitAt img 0x45 (bit + 1)⟩

/-- The configuration table validated (R176, R146), with its count of defaulted fields. -/
def parseConfig (img : List Byte) : Configuration × Nat :=
  let a := channelBlock img 0x00
  let b := channelBlock img 0x20
  let assigned := checkRepeats
    [assignment (u8 img 0x14) (some 0), assignment (u8 img 0x15) (some 2), assignment (u8 img 0x34) (some 1),
      assignment (u8 img 0x35) (some 3)] []
  let at_ := fun i => assigned.1.getD i none
  let debounce := judge (u8 img 0x40 ≤ 31) (u8 img 0x40) 5
  let p := judge (2 ≤ u8 img 0x42) (u8 img 0x42) 20
  let n := judge (1 ≤ u8 img 0x43 && u8 img 0x43 + 1 ≤ p.1) (u8 img 0x43) (min 10 (p.1 - 1))
  let confirm := judge (8 ≤ u8 img 0x44) (u8 img 0x44) 80
  let idle := judge (u16 img 0x46 ≤ 3600) (u16 img 0x46) 600
  ({ chans := ⟨{ a.1 with tip := at_ 0, foot := at_ 1 }, { b.1 with tip := at_ 2, foot := at_ 3 }⟩
     debounce := debounce.1
     reportMask := img.getD 0x41 0
     period := p.1
     onCount := n.1
     confirmTimeout := confirm.1
     strikeGate := gateAt img 0
     penGate := gateAt img 2
     consoleGate := gateAt img 4
     idleSeconds := idle.1 },
   a.2 + b.2 + assigned.2 + debounce.2 + p.2 + n.2 + confirm.2 + idle.2)

/-! ### The group and view tables -/

/-- An entry of the group table (R72, section 12.2). -/
def groupEntry (img : List Byte) (g : Nat) : GroupEntry × Nat :=
  let v := u8 img (4 * g + 2)
  let view := judge (v ≤ 7 || v == 0xFF) (if v ≤ 7 then some v else none) none
  (⟨u8 img (4 * g) % 8, bitAt img (4 * g + 1) 0, view.1⟩, view.2)

/-- The entries 0 to 60 of the group table; entries 61 to 63 are ignored (R72). -/
def parseGroups (img : List Byte) : List GroupEntry × Nat :=
  let es := (List.range 61).map (groupEntry img)
  (es.map Prod.fst, (es.map Prod.snd).sum)

/-- An entry of the view table: a field out of its range becomes 0 (section 12.2). -/
def viewEntry (img : List Byte) (v : Nat) : ViewEntry × Nat :=
  let o := 32 * v
  let display := fun n : Nat => judge (n ≤ 4095) n 0
  let bounded := fun (lim n : Int) => judge (decide (-lim ≤ n ∧ n ≤ lim)) n 0
  let dx := display (u16 img o)
  let dy := display (u16 img (o + 2))
  let ox := bounded 2000000 (i32 img (o + 4))
  let oy := bounded 2000000 (i32 img (o + 8))
  let sx := bounded 1000000 (i32 img (o + 12))
  let sy := bounded 1000000 (i32 img (o + 16))
  (⟨dx.1, dy.1, ox.1, oy.1, sx.1, sy.1⟩, dx.2 + dy.2 + ox.2 + oy.2 + sx.2 + sy.2)

/-- The view table. -/
def parseViews (img : List Byte) : List ViewEntry × Nat :=
  let vs := (List.range 8).map (viewEntry img)
  (vs.map Prod.fst, (vs.map Prod.snd).sum)

/-! ### The menu table -/

/-- A button kind by its code; every other value is no kind (section 12.2). -/
def kindOf (n : Nat) : Option ButtonKind :=
  if n = 1 then some .command
  else if n = 2 then some .openSheet
  else if n = 3 then some .back
  else if n = 4 then some .toggle
  else if n = 5 then some .choice
  else none

/-- A button record at an offset of the copy, its inert marking not yet decided (section 12.2). -/
def buttonAt (img : List Byte) (o : Nat) : Button :=
  ⟨u16 img o, kindOf (u8 img (o + 2)), u8 img (o + 3), u8 img (o + 4), bitAt img (o + 5) 0, bitAt img (o + 5) 1, false⟩

/-- The inert marking of the buttons of a sheet (R107): no kind, an OPEN whose target does not exist, or the tag of a button with a
lower index. `earlier` holds the tags of the buttons before. -/
def markInert (sheets : Nat) : List Nat → List Button → List Button
  | _, [] => []
  | earlier, b :: bs =>
    { b with inert := b.kind.isNone || (b.kind == some .openSheet && decide (sheets ≤ b.target)) || earlier.contains b.tag } ::
      markInert sheets (b.tag :: earlier) bs

/-- A sheet's initial choice judged (R106): NONE for 0xFF, and otherwise only a CHOICE button that is not inert. -/
def initialChoice (bs : List Button) (v : Nat) : Option Nat × Nat :=
  if v = 0xFF then (none, 0)
  else
    match bs[v]? with
    | none => (none, 1)
    | some b => if b.kind = some .choice ∧ b.inert = false then (some v, 0) else (none, 1)

/-- A sheet record of the copy validated against the sheet count (R106, R107). -/
def sheetAt (img : List Byte) (sheets n : Nat) : Sheet × Nat :=
  let o := 0x10 + 136 * n
  let count := judge (u8 img o ≤ 16) (u8 img o) 16
  let bs := markInert sheets [] ((List.range count.1).map fun i => buttonAt img (o + 8 + 8 * i))
  let first := initialChoice bs (u8 img (o + 2))
  (⟨bitAt img (o + 1) 0, first.1, bs⟩, count.2 + first.2)

/-- The sheet count judged: 0 becomes 1 and a count above 32 becomes 32 (R106). -/
def sheetCount (n : Nat) : Nat × Nat := if n = 0 then (1, 1) else if 32 < n then (32, 1) else (n, 0)

/-- The menu table validated (R106, R107). -/
def parseMenu (img : List Byte) : List Sheet × Nat :=
  let n := sheetCount (u8 img 0)
  let ss := (List.range n.1).map (sheetAt img n.1)
  (ss.map Prod.fst, n.2 + (ss.map Prod.snd).sum)

/-! ### Any table -/

/-- A table copy validated (R176), with its count of defaulted fields. No table is refused for its content. -/
def validate (t : TableId) (img : List Byte) : TableData × Nat :=
  match t with
  | .config => (.config (parseConfig img).1, defaultedCount (parseConfig img).2)
  | .group => (.group (parseGroups img).1, defaultedCount (parseGroups img).2)
  | .view => (.view (parseViews img).1, defaultedCount (parseViews img).2)
  | .menu => (.menu (parseMenu img).1, defaultedCount (parseMenu img).2)

/-- The tables with a validated copy in place of the table it is of (R175). -/
def Tables.put (t : Tables) : TableData → Tables
  | .config c => { t with config := some c }
  | .group g => { t with groups := g }
  | .view v => { t with views := v }
  | .menu m => { t with sheets := m }

end Sys2Proof.Machine
end

