-- ==== Sys2Proof/Machine/Glare.lean ====
section
/-! DEFINITION. The onset and the end of glare (R25, R26, R28), and the meanings of the strike-line rows: STRIKE, LINE LEAVES ACTIVE
LEVEL, GLARE ONSET, ECHO DELIVERY. -/

namespace Sys2Proof.Machine

/-- Step 3 of R26: the work of the state that glare ends, with its record. The channel stays in that state until step 6. -/
def State.glareEndsWork (s : State) (c : Chan) : State :=
  match (s.chan c).mode with
  | .off => s
  | .watch => s
  | .pressed => s.missAndGo c .glare none false .pressed
  | .calibrating => s.endCalibration c .glare .calibrating
  | .tracking => s.closeTracking c .glare
  | .suspended => s.closeTracking c .glare
  | .glare => s

/-- Steps 5 and 6 of R26: the echo lapses and the channel leaves what it tracked and enters GLARE, its timer stopped (R25). -/
def Channel.enterGlare (x : Channel) : Channel :=
  { x.leaveTracking with
    echo := .none, mode := .glare, glareTimer := none, glareFrames := 0, reminders := 0, reminderPhase := 0 }

/-- Glare onset in a channel (R26). It enters GLARE at step 6, after the records of steps 3 and 4 (log entry 21). Its highlight is chosen anew as the table is emptied and as GLARE is entered (R155). -/
def State.glareBegins (s : State) (c : Chan) : State :=
  (((((s.onChan c fun x => { x with pendingStrikes := [], results := [], table := [] }).chooseNow c).glareEndsWork c).andThen
    fun t => t.endCollection c .aborted).andThen fun t =>
    (t.onChan c Channel.enterGlare).chooseNow c).andThen fun t =>
    t.record c {} (.glare 0)

/-- The end of glare in a channel (R28), then the choice of its highlight (R155). -/
def State.glareEnds (s : State) (c : Chan) : State :=
  ((s.record c {} (.glareEnd (s.chan c).glareFrames (s.chan c).reminders)).andThen fun t =>
    t.onChan c fun x => { x with mode := .watch, table := [], pendingStrikes := [] }).andThen fun t =>
    t.chooseNow c

/-- Whether glare can begin in a channel: RUNNING, an enabled state other than GLARE, and a running glare timer (R25, R26). -/
def State.canGlare (s : State) (c : Chan) : Bool :=
  s.regs.device == .running && (s.chan c).mode.enabled && (s.chan c).mode != .glare && (s.chan c).glareTimer.isSome

/-- The strike line of a channel leaves its active level (R25, R28): the timer stops, and in GLARE the glare ends. -/
def State.lineLeaves (s : State) (c : Chan) : State :=
  (s.onChan c fun x => { x with lineHigh := !(s.chanConfig c).edge.activeHigh }).settle.andThen fun t =>
    if t.regs.device = .running ∧ (t.chan c).mode.enabled then
      let u := t.onChan c fun x => { x with glareTimer := none }
      if (u.chan c).mode = .glare then u.glareEnds c else u
    else t

/-- STRIKE (R21 to R25): the selected edge on a channel's strike line. -/
def execStrike (c : Chan) (s : State) : Host.Outcome State Fault Refusal := .next (s.strikeEdge c)

/-- LINE LEAVES ACTIVE LEVEL (R25, R28). -/
def execLineLeavesActiveLevel (c : Chan) (s : State) : Host.Outcome State Fault Refusal := .next (s.lineLeaves c)

/-- GLARE ONSET (R26): the running glare timer of a channel exceeds its threshold. The frame-end work of a close before it is done
first. Log entry 10 says what the command stands for. -/
def execGlareOnset (c : Chan) (s : State) : Host.Outcome State Fault Refusal :=
  .next (if s.canGlare c then s.settleAll.andThen fun t => t.glareBegins c else s)

/-- ECHO DELIVERY (R30): the frame clock reaches the time of a channel's due echo. -/
def execEchoDelivery (c : Chan) (s : State) : Host.Outcome State Fault Refusal := .next (s.deliverEcho c)

end Sys2Proof.Machine
end

