-- ==== Sys2Proof/Machine/Console.lean ====
section
/-! DEFINITION. The Console Switch Unit and the Idle Monitor's timer (09_console_switches_and_idle_dimming.md): debounce (R144,
R145), the classing and handing on of changes (R147), presses (R90, R91), change reports (R148), and the meanings of SWITCH INPUT
CHANGE, DEBOUNCE COMPLETION and IDLE TIMEOUT. -/

namespace Sys2Proof.Machine

/-- The channel and role of an input, for a channel in an enabled state (R147). -/
def State.penInput (s : State) (i : Fin 8) : Option (Chan × Role) :=
  [(Chan.a, Role.tip, (s.chanConfig .a).tip), (Chan.a, Role.foot, (s.chanConfig .a).foot),
    (Chan.b, Role.tip, (s.chanConfig .b).tip), (Chan.b, Role.foot, (s.chanConfig .b).foot)].findSome? fun x =>
    if x.2.2 = some i ∧ (s.chan x.1).mode.enabled then some (x.1, x.2.1) else none

/-- A press reaches a channel (R91): taken in WATCH, ignored elsewhere. The change of state chooses the highlight anew
(R155). DESIGN CHOICE (log entry 34): with the claims as they then stand, so that it may move where the other pen's claim has come or
gone since the last choice. -/
def State.pressChan (s : State) (c : Chan) (r : Role) : State :=
  if (s.chan c).mode = .watch then
    let t := s.onChan c fun x =>
      { x with
        mode := .pressed
        windowCount := (s.chanConfig c).pressWindow
        windowFrames := 0
        press := some ⟨r, s.beam.frame, s.beam.clock⟩
        stage := .noStrike
        windowResults := 0
        windowEcho := false }
    t.chooseNow c
  else s

/-- A PEN SWITCH event (R147): presented to the Idle Monitor; a passed change to PRESSED that the trigger source allows is a
press (R90). -/
def State.penSwitch (s : State) (c : Chan) (r : Role) (pressed : Bool) : State :=
  match s.present .penSwitch with
  | (false, t) => t
  | (true, t) => if pressed && (t.chanConfig c).trigger.allows r then t.pressChan c r else t

/-- A CONSOLE SWITCH event (R147, R148): presented to the Idle Monitor; a passed change on an input that the mask selects gives a
SWITCH record. -/
def State.consoleSwitch (s : State) (i : Fin 8) (pressed : Bool) : State :=
  match s.present .consoleSwitch with
  | (false, t) => t
  | (true, t) =>
    if t.config.reportMask.getLsbD i.val then t.place ⟨.console, t.beam.frame, {}, .switch i.val pressed⟩ else t

/-- A debounced change handed on in RUNNING (R147). -/
def State.handOn (s : State) (i : Fin 8) (pressed : Bool) : State :=
  match s.penInput i with
  | some (c, r) => s.penSwitch c r pressed
  | none => s.consoleSwitch i pressed

/-- An input of the Console Switch Unit replaced. -/
def State.setInput (s : State) (i : Fin 8) (w : Switch) : State := { s with inputs := s.inputs.set i.val w }

/-- The completion of an input's debounce (R144, R145): the debounced level takes the raw level, the timer stops, and in RUNNING
the change is handed on. -/
def State.completeDebounce (s : State) (i : Fin 8) : State :=
  let w := s.inputs.get i
  let t := s.setInput i ⟨w.raw, w.raw, none⟩
  if s.regs.device = .running then t.handOn i w.raw else t

/-- A raw input takes a level (R144). In HALTED only the pin moves (R145). -/
def State.rawChange (s : State) (i : Fin 8) (pressed : Bool) : State :=
  let w := s.inputs.get i
  if s.regs.device = .halted then s.setInput i { w with raw := pressed }
  else if w.raw = pressed then s
  else if pressed = w.level then s.setInput i ⟨pressed, w.level, none⟩
  else
    let t := s.setInput i ⟨pressed, w.level, some 0⟩
    if s.config.debounce = 0 then t.completeDebounce i else t

/-- The idle time in use, in milliseconds (R149). -/
def State.idleTime (s : State) : Nat := s.config.idleSeconds * 1000

/-- SWITCH INPUT CHANGE (R144): a raw console switch input takes a level. -/
def execSwitchInputChange (i : Fin 8) (pressed : Bool) (s : State) : Host.Outcome State Fault Refusal :=
  .next (s.settle.rawChange i pressed)

/-- DEBOUNCE COMPLETION (R144): an input whose debounce timer runs has held its new level for the debounce time. Log entry 10
says what the command stands for. -/
def execDebounceCompletion (i : Fin 8) (s : State) : Host.Outcome State Fault Refusal :=
  .next (s.settle.andThen fun t => if (t.inputs.get i).timer.isSome then t.completeDebounce i else t)

/-- IDLE TIMEOUT (R149): the idle timer of an AWAKE monitor reaches a non-zero idle time. Log entry 10 says what the command
stands for. -/
def execIdleTimeout (s : State) : Host.Outcome State Fault Refusal :=
  .next (if s.regs.device = .running ∧ s.idle.dim = false ∧ s.idleTime ≠ 0 then { s with idle := ⟨true, s.idleTime⟩ } else s)

end Sys2Proof.Machine
end

