-- ==== Sys2Proof/Machine/Install.lean ====
section
/-! DEFINITION. The Table Loader: reading revisions and tables (R173, R174, R177), an install with the work of every block that owns
matters of a table (R19, R20, R25, R35, R75, R89, R120, R121, R145, R151, R160, R175), and the meaning of READ END. -/

namespace Sys2Proof.Machine

/-! ### Channels at an install of the configuration -/

/-- The working delay computed from a channel's block, whose two fields become the installed ones (R34, R35). -/
def Channel.computeDelay (x : Channel) (cc : ChannelConfig) : Channel :=
  { x with delay := configuredDelay cc, cableClass := some cc.cableClass, delayOverride := some cc.delayOverride }

/-- Whether the fields of the working delay differ from the installed ones (R35). -/
def Channel.delayFieldsDiffer (x : Channel) (cc : ChannelConfig) : Bool :=
  x.cableClass != some cc.cableClass || x.delayOverride != some cc.delayOverride

/-- A channel enabled at an install (R19). -/
def Channel.enableWith (x : Channel) (cc : ChannelConfig) : Channel :=
  { x.computeDelay cc with
    mode := .watch, strikes := 0, pendingStrikes := [], results := [], table := [], echo := .none,
    glareTimer := if x.lineHigh = cc.edge.activeHigh then some 0 else none }

/-- What disabling leaves of a channel (R20, steps 4 to 7). Here it goes to OFF. -/
def Channel.switchOff (x : Channel) : Channel :=
  { x.leavePressed.leaveTracking with
    pendingStrikes := [], results := [], table := [], echo := .none, glareTimer := none, mode := .off }

/-- A channel disabled at an install (R20), with the choice of its highlight (R155). It stays in its state until step 7, after the
records of steps 1 to 3 (log entry 21). -/
def State.disableChan (s : State) (c : Chan) : State :=
  ((match (s.chan c).mode with
    | .off => s
    | .watch => s
    | .pressed => s
    | .calibrating => s.endCalibration c .disabled .calibrating
    | .tracking => s.closeTracking c .disabled
    | .suspended => s.closeTracking c .disabled
    | .glare => s).andThen fun t => t.endCollection c .aborted).andThen fun t =>
    (t.onChan c Channel.switchOff).chooseNow c

/-- A changed edge in an enabled channel (R25): the timer restarts at the new active level, and stops away from it, where a glare
ends. -/
def State.changeEdge (s : State) (c : Chan) (e : Edge) : State :=
  if (s.chan c).lineHigh = e.activeHigh then
    s.onChan c fun x => { x with glareTimer := if x.mode = .glare then x.glareTimer else some 0 }
  else
    let t := s.onChan c fun x => { x with glareTimer := none }
    if (t.chan c).mode = .glare then t.glareEnds c else t

/-- A changed glare threshold in an enabled channel (R25): a running timer that already exceeds it begins glare at the install. -/
def State.changeThreshold (s : State) (c : Chan) (n : Nat) : State :=
  if s.canGlare c ∧ n < (s.chan c).glareTimer.getD 0 then s.glareBegins c else s

/-- A changed history length or confirmation count empties the qualification table (R89), and the highlight is chosen anew (R155). -/
def State.changeHistory (s : State) (c : Chan) : State := (s.onChan c fun x => { x with table := [] }).chooseNow c

/-- The changed fields of a channel that stays enabled (R25, R89). -/
def State.changeFields (s : State) (c : Chan) (was now : ChannelConfig) : State :=
  ((if was.m = now.m ∧ was.k = now.k then s else s.changeHistory c).andThen fun t =>
    if was.edge = now.edge then t else t.changeEdge c now.edge).andThen fun t =>
    if was.glareThreshold = now.glareThreshold then t else t.changeThreshold c now.glareThreshold

/-- A channel at an install of the configuration (R19, R20, R25, R35, R89), its highlight chosen at each change of its state (R155). -/
def State.installChan (s : State) (c : Chan) (was now : ChannelConfig) : State :=
  (if (s.chan c).mode = .off then
      if now.enable then (s.onChan c fun x => x.enableWith now).chooseNow c else s
    else if now.enable then s.changeFields c was now
    else s.disableChan c).andThen fun t =>
    if (t.chan c).delayFieldsDiffer now then t.onChan c fun x => x.computeDelay now else t

/-! ### The other blocks at an install of the configuration -/

/-- The blink generator takes a new period and on-count (R160). -/
def Feedback.install (f : Feedback) (p n : Nat) : Feedback :=
  if f.period = p ∧ f.onCount = n then f
  else
    match f.blink with
    | none => { f with period := p, onCount := n, waiting := none }
    | some _ => { f with waiting := some (p, n) }

/-- The Idle Monitor takes a new idle time, in milliseconds (R151). -/
def Idle.install (i : Idle) (time : Nat) : Idle :=
  if time = 0 then (if i.dim then ⟨false, 0⟩ else i)
  else if i.dim = false ∧ time ≤ i.timer then { i with dim := true }
  else i

/-- The debounce timers that already reach a new debounce time complete at the install, each handed on by itself (R145). -/
def State.completeReached (s : State) : List (Fin 8) → State
  | [] => s
  | i :: rest =>
    (if s.config.debounce ≤ ((s.inputs.get i).timer.getD 0) ∧ (s.inputs.get i).timer.isSome then s.completeDebounce i
      else s).andThen fun t => t.completeReached rest

/-- The eight inputs. -/
def allInputs : List (Fin 8) := [0, 1, 2, 3, 4, 5, 6, 7]

/-- The inputs in the order of the free value: two inputs that complete at one moment are handed on in either order (R144). -/
def State.inputOrder (s : State) : List (Fin 8) := if Config.channelBFirst s.choices then allInputs.reverse else allInputs

/-- The Console Switch Unit and the Idle Monitor at an install of the configuration (R145, R151). -/
def State.installConsole (s : State) : State :=
  let t := { s with idle := s.idle.install s.idleTime, choices := s.choices + 1 }
  t.completeReached s.inputOrder

/-! ### An install -/

/-- The tables that are WAITING, with their revisions, copies and counts. -/
def waitingTables (l : Quad Load) : List (TableId × Word × TableData × Nat) :=
  allTables.filterMap fun t =>
    match l.get t with
    | .waiting r d n => some (t, r, d, n)
    | .idle => none
    | .reading _ _ => none

/-- The loader with the waiting copies installed and their tables IDLE, and the last load outcome that the install leads to (R175,
R176). -/
def Loader.installAll (l : Loader) (frame : Nat) : Loader :=
  let ws := waitingTables l.loads
  let revs := ws.foldl (fun q w => q.set w.1 (some w.2.1)) l.revisions
  { tables := ws.foldl (fun t w => t.put w.2.2.1) l.tables
    revisions := revs
    loads := ws.foldl (fun q w => q.set w.1 .idle) l.loads
    outcome :=
      { frame := frame
        installed := ws.foldl (fun q w => q.set w.1 true) ⟨false, false, false, false⟩
        revisions := ⟨revs.config.getD 0, revs.group.getD 0, revs.view.getD 0, revs.menu.getD 0⟩
        counts := ws.foldl (fun q w => q.set w.1 w.2.2.2) ⟨0, 0, 0, 0⟩ } }

/-- Whether an install enables a channel (R19). -/
def State.enables (s : State) (l : Loader) (c : Chan) : Bool :=
  l.outcome.installed.config && (s.chan c).mode == .off && ((l.tables.config.getD defaultConfiguration).chans.get c).enable

/-- The cause for which an install disarms a channel's armed button, if it does (R115, R120, R121). -/
def State.installCause (s : State) (l : Loader) (c : Chan) : Option DisarmCause :=
  if l.outcome.installed.menu then some .install
  else if homeInUse (l.tables.config.getD defaultConfiguration) l.tables c ≠ (s.menu c).home then some .stack
  else if s.enables l c then some .stack
  else none

/-- The DISARMED record of a channel's armed button at an install, showing the menu before the install's changes (R116, R120). -/
def State.installReport (l : Loader) (c : Chan) (s : State) : State :=
  match s.installCause l c with
  | none => s
  | some k => s.reportDisarm c k

/-- A channel's armed button disarmed at an install (R115), once the records of both channels are made: its highlight changes with its
shown sheet, in one step (R153; log entry 21). -/
def State.installDisarm (s : State) (l : Loader) (c : Chan) : State :=
  match s.installCause l c with
  | none => s
  | some _ => s.clearArmed c

/-- A channel's menu after an install (R120, R121): one pass over the two tables, then the reset of an enabling install. -/
def State.installMenu (s : State) (l : Loader) (c : Chan) : Menu :=
  let m := if l.outcome.installed.menu then (s.menu c).afterTable l.tables.sheets else s.menu c
  let n := m.withHome (homeInUse (l.tables.config.getD defaultConfiguration) l.tables c)
  if s.enables l c then n.toHome else n

/-- The new tables put in use, with the Menu Engine's install work. The last load outcome is not set yet (R175). -/
def State.swapTables (s : State) (l : Loader) : State :=
  { s with menus := ⟨s.installMenu l .a, s.installMenu l .b⟩, loader := { l with outcome := s.loader.outcome } }

/-- The last load outcome set (R176). -/
def State.setOutcome (s : State) (o : LoadOutcome) : State := { s with loader := { s.loader with outcome := o } }

/-- The install work of the blocks that take the configuration. -/
def State.installConfig (s : State) (was : Configuration) : State :=
  ((s.eachChan fun c t => t.installChan c (was.chans.get c) (t.chanConfig c)).andThen fun t =>
    { t with feedback := t.feedback.install t.config.period t.config.onCount }).andThen State.installConsole

/-- The lock flags a start sets from "start locked" (R75). -/
def State.startLocks (s : State) : State :=
  { s with locks := ⟨Vector.replicate 61 (s.chanConfig .a).startLocked, Vector.replicate 61 (s.chanConfig .b).startLocked⟩ }

/-- The installs of a FRAME START (R175): the blocks' work, then the last load outcome, the status section and LOAD. Nothing happens
where no table is WAITING. `start` marks the install at which the device becomes RUNNING (R177). -/
def State.install (s : State) (start : Bool) : State :=
  if (waitingTables s.loader.loads).isEmpty then s
  else
    let l := s.loader.installAll s.beam.frame
    let was := s.config
    ((((s.eachChan (State.installReport l)).andThen fun t =>
        ((t.installDisarm l .a).installDisarm l .b).swapTables l).andThen fun t =>
        if start then t.startLocks else t).andThen fun t =>
      if l.outcome.installed.config then t.installConfig was else t).andThen fun t =>
      (t.setOutcome l.outcome).writeStatus.2.andThen fun u => u.onRegs fun g => { g with causes := { g.causes with load := true } }

/-! ### Reads -/

/-- A table's load state replaced. -/
def State.setLoad (s : State) (t : TableId) (x : Load) : State :=
  { s with loader := { s.loader with loads := s.loader.loads.set t x } }

/-- A table's revision in the header. -/
def State.revisionWord (s : State) (t : TableId) : Word := BitVec.ofNat 32 (ofBytes (s.areaBytes (revisionOffset t) 4))

/-- Whether a revision is even (R173). -/
def evenRevision (r : Word) : Bool := !r.getLsbD 0

/-- The second step of R173 for one table: an IDLE table with an even revision other than the installed one begins a read. -/
def State.lookRunning (s : State) (t : TableId) : State :=
  match s.loader.loads.get t with
  | .idle =>
    match s.access (.revisionRead t) with
    | (some _, u) => u.busErrorMet
    | (none, u) =>
      if evenRevision (u.revisionWord t) ∧ u.loader.revisions.get t ≠ some (u.revisionWord t) then
        u.setLoad t (.reading (u.revisionWord t) [])
      else u
  | .reading _ _ => s
  | .waiting _ _ _ => s

/-- The revision of a waiting copy. -/
def Load.waitingRevision : Load → Option Word
  | .idle => none
  | .reading _ _ => none
  | .waiting r _ _ => some r

/-- The first step of a FRAME START in LOADING for one table (R177): a table that is not READING and has an even revision other
than its waiting copy's begins a read, and the waiting copy is discarded. -/
def State.lookLoading (s : State) (t : TableId) : State :=
  match s.loader.loads.get t with
  | .reading _ _ => s
  | x =>
    match s.access (.revisionRead t) with
    | (some _, u) => u.busErrorMet
    | (none, u) =>
      if evenRevision (u.revisionWord t) ∧ x.waitingRevision ≠ some (u.revisionWord t) then
        u.setLoad t (.reading (u.revisionWord t) [])
      else u

/-- A look at each of the four tables. DESIGN CHOICE (log entry 30): in the order of the status section, where R173 has the tables worked
through independently. -/
def State.lookAll (s : State) (f : State → TableId → State) : State :=
  ((((f s .config).andThen fun t => f t .group).andThen fun t => f t .view).andThen fun t => f t .menu)

/-- Whether all four tables are WAITING (R177). -/
def Loader.allWaiting (l : Loader) : Bool := (waitingTables l.loads).length == 4

/-- The end of a table's read (R174): the rest of its words are read, then its revision again; a changed revision discards the
copy, an unchanged one validates it. A bus error abandons the read (R183). -/
def State.endRead (s : State) (t : TableId) : State :=
  match s.loader.loads.get t with
  | .idle => s
  | .waiting _ _ _ => s
  | .reading r got =>
    match s.access (.tableRead t) with
    | (some _, u) => (u.setLoad t .idle).busErrorMet
    | (none, u) =>
      let img := got ++ u.areaBytes (tableOffset t + got.length) (tableLength t - got.length)
      match u.access (.revisionRead t) with
      | (some _, v) => (v.setLoad t .idle).busErrorMet
      | (none, v) =>
        if v.revisionWord t = r then v.setLoad t (.waiting r (validate t img).1 (validate t img).2) else v.setLoad t .idle

/-- How far the reads in flight have come when a write of the host's lands (log entry 6): each READING table has read a free number
of its bytes, in order. -/
def State.advanceRead (s : State) (t : TableId) : State :=
  match s.loader.loads.get t with
  | .idle => s
  | .waiting _ _ _ => s
  | .reading r got =>
    let n := min (Config.readProgress s.choices) (tableLength t - got.length)
    { s.setLoad t (.reading r (got ++ s.areaBytes (tableOffset t + got.length) n)) with choices := s.choices + 1 }

/-- READ END (R174): a table read finishes. -/
def execReadEnd (t : TableId) (s : State) : Host.Outcome State Fault Refusal :=
  .next (if s.regs.device = .loading ∨ s.regs.device = .running then s.endRead t else s)

end Sys2Proof.Machine
end

