-- ==== Sys2Proof/Machine/Requests.lean ====
section
/-! DEFINITION. The Request Handler (R179, R180): the request cell, the decision of each request by its owning block (R29, R36, R42,
R76, R77, R101, R103, R117, R118, R125, R126, R140, R141), completion, and the meanings of the request rows and of ATTENTION
WRITE. A request row stands for the host's whole act: it places the cell in its memory and writes ATTENTION (log entry 9). -/

namespace Sys2Proof.Machine

/-! ### The request cell -/

/-- The fields of the request cell as they read at a sample: the code and the rest (header table of section 12.2). -/
def State.readCell (s : State) : BitVec 8 × RequestArgs :=
  let b := fun i => Memory.read s.mem (s.area (0x20 + i))
  (b 1, { seq := b 0, channel := b 2, first := BitVec.ofNat 16 (ofBytes (s.areaBytes 0x24 2))
          second := BitVec.ofNat 32 (ofBytes (s.areaBytes 0x28 4)) })

/-- The host places a request in the cell, the sequence byte after the other fields (R179). -/
def State.placeCell (s : State) (code : BitVec 8) (r : RequestArgs) : State :=
  (((s.writeArea 0x21 [code, r.channel]).writeArea 0x24 (bytes16 r.first.toNat)).writeArea 0x28
    (bytes32 r.second.toNat)).writeArea 0x20 [r.seq]

/-- The channel a channel field names; a value other than 0 and 1 names none. -/
def chanOf (n : BitVec 8) : Option Chan := if n = 0 then some .a else if n = 1 then some .b else none

/-! ### Decisions: the state after the request's own effect, and the outcome -/

/-- A request decided for a channel; a channel other than A or B is refused with UNKNOWN. -/
def State.forChan (s : State) (r : RequestArgs) (f : Chan → State × ReqOutcome) : State × ReqOutcome :=
  match chanOf r.channel with
  | none => (s, .unknown)
  | some c => f c

/-- A request decided for an enabled channel; an OFF channel is refused with WRONG STATE (R180). -/
def State.forEnabled (s : State) (r : RequestArgs) (f : Chan → State × ReqOutcome) : State × ReqOutcome :=
  s.forChan r fun c => if (s.chan c).mode = .off then (s, .wrongState) else f c

/-- A channel's lock flag for a group set or cleared (R75). -/
def State.setLock (s : State) (c : Chan) (g : Nat) (v : Bool) : State :=
  { s with locks := s.locks.set c ((s.locks.get c).setIfInBounds g v) }

/-- All 61 lock flags of a channel set or cleared (R77). -/
def State.setLocks (s : State) (c : Chan) (v : Bool) : State := { s with locks := s.locks.set c (Vector.replicate 61 v) }

/-- LOCK GROUP and UNLOCK GROUP (R76). -/
def State.decideLock (s : State) (r : RequestArgs) (v : Bool) : State × ReqOutcome :=
  s.forChan r fun c => if 60 < r.first.toNat then (s, .outOfRange) else (s.setLock c r.first.toNat v, .done)

/-- LOCK ALL and UNLOCK ALL (R77). -/
def State.decideLockAll (s : State) (r : RequestArgs) (v : Bool) : State × ReqOutcome :=
  s.forChan r fun c => (s.setLocks c v, .done)

/-- CLAIM (R125). -/
def State.decideClaim (s : State) (r : RequestArgs) : State × ReqOutcome :=
  if (holderOf s.claims.entries r.first.toNat).isSome then (s, .wrongState)
  else if Config.claimsMax ≤ s.claims.entries.length then (s, .tableFull)
  else (s.onClaims fun e => e ++ [⟨r.first.toNat, .program⟩], .done)

/-- A channel's tracking ended by a request, for a reason: it goes to WATCH with no strike results (R64, R138). -/
def State.dropTracking (s : State) (c : Chan) (e : EndReason) : State :=
  (s.endTracking c e).andThen fun t => t.onChan c fun x => { x with results := [] }

/-- RELEASE (R126). -/
def State.decideRelease (s : State) (r : RequestArgs) : State × ReqOutcome :=
  match holderOf s.claims.entries r.first.toNat with
  | none => (s, .notFound)
  | some .program => (s.onClaims fun e => e.filter fun k => k.tag != r.first.toNat, .done)
  | some (.pen c) => (s.dropTracking c .released, .done)

/-- SUSPEND TRACK (R140). -/
def State.decideSuspend (s : State) (r : RequestArgs) : State × ReqOutcome :=
  s.forEnabled r fun c =>
    if (s.chan c).mode = .tracking then (s.onChan c fun x => x.goto .suspended, .done) else (s, .wrongState)

/-- RESUME TRACK (R141). -/
def State.decideResume (s : State) (r : RequestArgs) : State × ReqOutcome :=
  s.forEnabled r fun c =>
    if (s.chan c).mode = .suspended then
      if s.tipHeld c then (s.onChan c fun x => { x with mode := .tracking, loss := 0 }, .done)
      else (s.dropTracking c .dropped, .done)
    else (s, .wrongState)

/-- A channel in WATCH goes to CALIBRATING on a dot tag (R36). -/
def Channel.startCalibration (x : Channel) (dot : Nat) : Channel :=
  { x with
    pendingStrikes := [], results := [], table := [], dotTag := some dot, measures := [], measured := false,
    budget := Config.calibrationFrames, mode := .calibrating }

/-- CALIBRATE (R36). -/
def State.decideCalibrate (s : State) (r : RequestArgs) : State × ReqOutcome :=
  s.forEnabled r fun c =>
    if (s.chan c).mode = .watch then (s.onChan c fun x => x.startCalibration r.first.toNat, .done) else (s, .wrongState)

/-- CANCEL CALIBRATION (R42). -/
def State.decideCancel (s : State) (r : RequestArgs) : State × ReqOutcome :=
  s.forEnabled r fun c =>
    if (s.chan c).mode = .calibrating then (s.endCalibration c .cancelled .watch, .done) else (s, .wrongState)

/-- OPEN SHEET (R117). -/
def State.decideOpen (s : State) (r : RequestArgs) : State × ReqOutcome :=
  s.forEnabled r fun c =>
    if s.tables.sheets.length ≤ r.first.toNat then (s, .outOfRange)
    else if Config.stackMax ≤ (s.menu c).stack.length then (s, .tableFull)
    else ((s.disarm c .stack).andThen fun t => t.onMenu c fun m => m.push r.first.toNat, .done)

/-- HOME MENU (R118). -/
def State.decideHome (s : State) (r : RequestArgs) : State × ReqOutcome :=
  s.forEnabled r fun c => ((s.disarm c .home).andThen fun t => t.onMenu c Menu.cutHome, .done)

/-- COLLECT (R101). -/
def State.decideCollect (s : State) (r : RequestArgs) : State × ReqOutcome :=
  s.forEnabled r fun c =>
    if r.first.toNat = 0 ∨ 16 < r.first.toNat then (s, .outOfRange)
    else if (s.chan c).mode = .glare ∨ (s.chan c).collection.isSome then (s, .wrongState)
    else (s.onChan c fun x => { x with collection := some ⟨r.first.toNat, r.first.toNat, []⟩ }, .done)

/-- END COLLECTION (R103). -/
def State.decideEndCollection (s : State) (r : RequestArgs) : State × ReqOutcome :=
  s.forEnabled r fun c =>
    if (s.chan c).collection.isSome then (s.endCollection c .ended, .done) else (s, .wrongState)

/-- INJECT STRIKE (R29). -/
def State.decideInject (s : State) (r : RequestArgs) : State × ReqOutcome :=
  s.forEnabled r fun c =>
    if Config.clockMax < r.second.toNat then (s, .outOfRange)
    else if (s.chan c).mode = .glare ∨ (s.chan c).echo.isPending then (s, .wrongState)
    else (s.onChan c fun x => { x with echo := .scheduled r.second.toNat }, .done)

/-- Dispatch by the request code (the table of section 12.5, R180). -/
def State.dispatch (s : State) (code : BitVec 8) (r : RequestArgs) : State × ReqOutcome :=
  match code.toNat with
  | 1 => s.decideLock r true
  | 2 => s.decideLock r false
  | 3 => s.decideLockAll r true
  | 4 => s.decideLockAll r false
  | 5 => s.decideClaim r
  | 6 => s.decideRelease r
  | 7 => s.decideSuspend r
  | 8 => s.decideResume r
  | 9 => s.decideCalibrate r
  | 10 => s.decideCancel r
  | 11 => s.decideOpen r
  | 12 => s.decideHome r
  | 13 => s.decideCollect r
  | 14 => s.decideEndCollection r
  | 15 => s.decideInject r
  | _ => (s, .unknown)

/-! ### Completion and sampling -/

/-- A taken request completes (R180): its outcome becomes the last outcome, the highlights are chosen anew (R155), the status
section is written, and REQUEST is set once that write is whole (R183). DESIGN CHOICE (log entry 35): the choice comes before the
write, to which R155 and R180 give it no order. -/
def State.complete (s : State) (o : ReqOutcome) : State :=
  match ({ s with requests := { s.requests with lastOutcome := o } }).chooseBoth.writeStatus with
  | (true, t) => t.onRegs fun g => { g with causes := { g.causes with request := true } }
  | (false, t) => t

/-- The cell judged as it read at a sample (R179): a sequence of 0 or the last taken sequence is not taken. -/
def State.takeCell (s : State) (code : BitVec 8) (r : RequestArgs) : State :=
  if r.seq = 0 ∨ r.seq = s.requests.lastTaken then s
  else
    let d := { s with requests := { s.requests with lastTaken := r.seq } }.dispatch code r
    d.1.andThen fun t => t.complete d.2

/-- A sample of the request cell, in one access (R179). A request whose cell could not be read is not taken (R183). -/
def State.sample (s : State) : State :=
  match s.access .requestRead with
  | (some _, t) => t.busErrorMet
  | (none, t) => t.takeCell t.readCell.1 t.readCell.2

/-- A write to ATTENTION (R179): a sample, except while HALTED. What a frame end in progress owes the channels is done first, but
for the decision of its asks (R132, log entry 4). -/
def State.attention (s : State) : State :=
  if s.regs.device = .halted then s else s.settle.andThen State.sample

/-- The host's act of making a request: the cell placed, then ATTENTION written. -/
def State.request (s : State) (code : BitVec 8) (r : RequestArgs) : State := (s.placeCell code r).attention

/-! ### The rows -/

/-- LOCK GROUP (R76). -/
def execLockGroup (r : RequestArgs) (s : State) : Host.Outcome State Fault Refusal := .next (s.request 1 r)

/-- UNLOCK GROUP (R76). -/
def execUnlockGroup (r : RequestArgs) (s : State) : Host.Outcome State Fault Refusal := .next (s.request 2 r)

/-- LOCK ALL (R77). -/
def execLockAll (r : RequestArgs) (s : State) : Host.Outcome State Fault Refusal := .next (s.request 3 r)

/-- UNLOCK ALL (R77). -/
def execUnlockAll (r : RequestArgs) (s : State) : Host.Outcome State Fault Refusal := .next (s.request 4 r)

/-- CLAIM (R125). -/
def execClaim (r : RequestArgs) (s : State) : Host.Outcome State Fault Refusal := .next (s.request 5 r)

/-- RELEASE (R126). -/
def execRelease (r : RequestArgs) (s : State) : Host.Outcome State Fault Refusal := .next (s.request 6 r)

/-- SUSPEND TRACK (R140). -/
def execSuspendTrack (r : RequestArgs) (s : State) : Host.Outcome State Fault Refusal := .next (s.request 7 r)

/-- RESUME TRACK (R141). -/
def execResumeTrack (r : RequestArgs) (s : State) : Host.Outcome State Fault Refusal := .next (s.request 8 r)

/-- CALIBRATE (R36). -/
def execCalibrate (r : RequestArgs) (s : State) : Host.Outcome State Fault Refusal := .next (s.request 9 r)

/-- CANCEL CALIBRATION (R42). -/
def execCancelCalibration (r : RequestArgs) (s : State) : Host.Outcome State Fault Refusal := .next (s.request 10 r)

/-- OPEN SHEET (R117). -/
def execOpenSheet (r : RequestArgs) (s : State) : Host.Outcome State Fault Refusal := .next (s.request 11 r)

/-- HOME MENU (R118). -/
def execHomeMenu (r : RequestArgs) (s : State) : Host.Outcome State Fault Refusal := .next (s.request 12 r)

/-- COLLECT (R101). -/
def execCollect (r : RequestArgs) (s : State) : Host.Outcome State Fault Refusal := .next (s.request 13 r)

/-- END COLLECTION (R103). -/
def execEndCollection (r : RequestArgs) (s : State) : Host.Outcome State Fault Refusal := .next (s.request 14 r)

/-- INJECT STRIKE (R29). -/
def execInjectStrike (r : RequestArgs) (s : State) : Host.Outcome State Fault Refusal := .next (s.request 15 r)

/-- UNKNOWN REQUEST (R180): a request with the code given. -/
def execUnknownRequest (code : BitVec 8) (r : RequestArgs) (s : State) : Host.Outcome State Fault Refusal :=
  .next (s.request code r)

/-- ATTENTION WRITE (R179): the cell is sampled as the host has left it. -/
def execAttentionWrite (s : State) : Host.Outcome State Fault Refusal := .next s.attention

end Sys2Proof.Machine
end

