-- ==== Sys2Proof/Machine/Beam.lean ====
section
/-! DEFINITION. The beam notes (01_the_beam_trail.md): the meanings of FRAME START (R5, R6 and the work that R173, R175, R177, R179
and R167 put at it), VECTOR BEGIN (R11, R12), VECTOR END (R13), FRAME END (R7) and FRAME CLOCK SATURATION (R3). -/

namespace Sys2Proof.Machine

/-! ### Vectors -/

/-- A display coordinate of a note, above 4095 clamped to 4095 (R2). -/
def noteCoord (v : BitVec 13) : Nat := min v.toNat 4095

/-- The trail entry a VECTOR BEGIN note makes at a time (R2, R11). -/
def entryOf (v : VectorNote) (t : Nat) : Entry where
  tag := v.tag.toNat
  group := v.group.toNat
  index := v.index.toNat
  start := ⟨noteCoord v.x0, noteCoord v.y0⟩
  finish := ⟨noteCoord v.x1, noteCoord v.y1⟩
  begun := t
  ended := none

/-- The third and fourth step of R11: a full trail gives up its oldest entry and the dropped flag is set (R12); the new entry is
appended as the newest. -/
def Beam.append (b : Beam) (e : Entry) : Beam :=
  if b.trail.length < Config.trailMax then { b with trail := b.trail ++ [e] }
  else { b with trail := b.trail.drop 1 ++ [e], dropped := true }

/-- The newest entry ended at the frame clock, and every pending strike resolved (the first two steps of R11; R13). -/
def State.endVector (s : State) : State :=
  { s with beam := { s.beam with trail := endNewest s.beam.clock s.beam.trail } }.completeBoth

/-- A VECTOR BEGIN in an OPEN frame (R11). -/
def State.beginVector (s : State) (v : VectorNote) : State :=
  let t := s.endVector
  { t with beam := t.beam.append (entryOf v t.beam.clock) }

/-- Whether the notes of vectors and FRAME END are handled: RUNNING with a frame OPEN (R1). -/
def State.frameOpen (s : State) : Bool := s.regs.device == .running && s.beam.isOpen

/-- VECTOR BEGIN (R11). A note is handled whole before the next (R2), so the frame end before it is finished first. -/
def execVectorBegin (v : VectorNote) (s : State) : Host.Outcome State Fault Refusal :=
  .next (s.settleAll.andThen fun t => if t.frameOpen then t.beginVector v else t)

/-- VECTOR END (R13): ignored where the newest entry is not being drawn. -/
def execVectorEnd (s : State) : Host.Outcome State Fault Refusal :=
  .next (s.settleAll.andThen fun t => if t.frameOpen && newestUnended t.beam.trail then t.endVector else t)

/-- FRAME END (R7), to the point where only the steps the table lists on their own are left of its frame end (log entry 4). -/
def execFrameEnd (s : State) : Host.Outcome State Fault Refusal :=
  .next (s.settleAll.andThen fun t => if t.frameOpen then t.closeFrame else t)

/-- FRAME CLOCK SATURATION (R3): the frame clock runs to its last value. Log entry 10 says what the command stands for. -/
def execFrameClockSaturation (s : State) : Host.Outcome State Fault Refusal := .next s.saturate

/-! ### The opening of a frame -/

/-- The Beam Trail opens a frame (R3, R4, R5). -/
def Beam.opened (b : Beam) : Beam :=
  { b with isOpen := true, clock := 0, frame := (b.frame + 1) % 65536, trail := [], dropped := false }

/-- A channel at the opening of a frame (R23, R24, R30, R38). -/
def Channel.opened (x : Channel) : Channel := { x.echoFallsDue with strikes := 0, results := [], measured := false }

/-- A frame opened (R5). -/
def State.openFrame (s : State) : State :=
  { s with beam := s.beam.opened, chans := ⟨s.chans.a.opened, s.chans.b.opened⟩ }

/-- What follows the installs of a FRAME START handled in RUNNING: the choice of the highlights (R155), the revisions of the IDLE
tables (R173), the request sample (R179) and the draining of the holds (R167). DESIGN CHOICE (log entry 30): in this order, after the
status write and LOAD of the installs. -/
def State.afterInstalls (s : State) : State :=
  ((s.chooseBoth.lookAll State.lookRunning).andThen State.sample).andThen State.drain

/-- An OPEN frame closed, with its whole frame end (R6). -/
def State.closeWhole (s : State) : State := s.closeFrame.andThen State.settleAll

/-- A FRAME START handled in RUNNING (R5, R6, R173). -/
def State.startFrame (s : State) : State :=
  (((if s.beam.isOpen then s.closeWhole else s).andThen State.openFrame).andThen fun t => t.install false).andThen
    State.afterInstalls

/-- The start (R177): the device becomes RUNNING, frame 1 is opened and all four tables are installed. -/
def State.start (s : State) : State :=
  (((s.onRegs fun g => { g with device := .running }).openFrame).install true).andThen State.afterInstalls

/-- A FRAME START in LOADING (R177): a look at each table, and the start once all four are WAITING. -/
def State.paceLoading (s : State) : State :=
  (s.lookAll State.lookLoading).andThen fun t => if t.loader.allWaiting then t.start else t

/-- FRAME START (R5): handled in RUNNING, pacing the reading in LOADING, ignored in STOPPED and HALTED (R1). -/
def execFrameStart (s : State) : Host.Outcome State Fault Refusal :=
  .next (match s.regs.device with
    | .running => s.settleAll.andThen State.startFrame
    | .loading => s.paceLoading
    | .stopped => s
    | .halted => s)

end Sys2Proof.Machine
end

