-- ==== Sys2Proof/Machine/Registers.lean ====
section
/-! DEFINITION. Writes of the four registers and the reset line (R172, R177, R178, R182), and a bus error (R183): the meanings of
RUN SET, STOP, SOFT RESET, INTERRUPT ENABLES WRITE, STATUS WRITE, AREA BASE WRITE, POWER ON RESET and BUS ERROR. The four rows
that write CONTROL stand for the whole write; the value written decides what it does (log entry 11). -/

namespace Sys2Proof.Machine

/-! ### Stop and reset -/

/-- A channel at a stop or a reset (R32, R45, R104, R143); the level of its strike line is a pin and stays. -/
def Channel.stopped (x : Channel) : Channel := { Channel.reset with lineHigh := x.lineHigh }

/-- A console switch input at a stop or a reset: the debounced level follows the raw input, and the timer stops (R152). -/
def Switch.stopped (w : Switch) : Switch := ⟨w.raw, w.raw, none⟩

/-- Every block at the values its chapter gives for a stop (R17, R32, R45, R82, R104, R123, R143, R152, R161, R171, R178). Kept
are the registers but for the device state, the next slot index, the last taken sequence and the last outcome; host memory, the
pins and what comes from outside are not the part's. -/
def State.stopValues (s : State) : State :=
  { s with
    regs := { s.regs with device := .stopped }
    beam := ⟨false, 0, 0, [], false, false⟩
    chans := ⟨s.chans.a.stopped, s.chans.b.stopped⟩
    menus := ⟨Menu.reset, Menu.reset⟩
    claims := ⟨[], ⟨none, none⟩, none⟩
    inputs := s.inputs.map Switch.stopped
    idle := ⟨false, 0⟩
    feedback := Feedback.reset
    loader := Loader.reset
    log := ⟨s.log.nextSlot, 0, []⟩
    locks := ⟨Vector.replicate 61 false, Vector.replicate 61 false⟩
    work := FrameWork.none }

/-- The values of a soft reset (R178): those of a stop, with the log's next slot index, the last taken sequence, the last outcome,
CONTROL and STATUS at 0. AREA BASE is kept. -/
def State.softResetValues (s : State) : State :=
  { s.stopValues with
    regs := { Registers.reset with areaBase := s.regs.areaBase }
    log := ⟨0, 0, []⟩
    requests := ⟨0, .done⟩ }

/-- The values of a power-on reset (R178): those of a soft reset, with AREA BASE 0. -/
def State.powerOnValues (s : State) : State := { s.softResetValues with regs := Registers.reset }

/-! ### CONTROL -/

/-- The header's format number. -/
def State.formatNumber (s : State) : Nat := ofBytes (s.areaBytes 0x00 4)

/-- A start (R177): the fault kind becomes NONE and the format number is read; LOADING if it is 1, HALTED with FORMAT otherwise,
and HALTED with BUS ERROR if the read fails. -/
def State.beginStart (s : State) : State :=
  match (s.onRegs fun g => { g with faultKind := .none }).access .formatRead with
  | (some _, t) => t.halt .busError
  | (none, t) => if t.formatNumber = 1 then t.onRegs fun g => { g with device := .loading } else t.halt .format

/-- A write of CONTROL that leaves SOFT RESET clear: RUN and the enables are taken, and a change of RUN starts or stops the part
(R177, R182). -/
def State.takeControl (s : State) (v : Word) : State :=
  let t := s.onRegs fun g => { g with run := v.getLsbD 0, enables := Causes.ofWord v }
  if v.getLsbD 0 then (if s.regs.device = .stopped then t.beginStart else t)
  else if s.regs.device = .stopped then t
  else t.stopValues

/-- A write of CONTROL (R177, R178, R182): one that sets SOFT RESET is a soft reset, whatever else it writes. -/
def State.writeControl (s : State) (v : Word) : State := if v.getLsbD 1 then s.softResetValues else s.takeControl v

/-- RUN SET (R177): a CONTROL write. With RUN set and SOFT RESET clear, while STOPPED, it begins a start. -/
def execRunSet (v : Word) (s : State) : Host.Outcome State Fault Refusal := .next (s.writeControl v)

/-- STOP (R177, R178): a CONTROL write. With RUN and SOFT RESET clear, outside STOPPED, it stops the part. -/
def execStop (v : Word) (s : State) : Host.Outcome State Fault Refusal := .next (s.writeControl v)

/-- SOFT RESET (R178): a CONTROL write. With SOFT RESET set it resets the part. -/
def execSoftReset (v : Word) (s : State) : Host.Outcome State Fault Refusal := .next (s.writeControl v)

/-- INTERRUPT ENABLES WRITE (R182): a CONTROL write. The enables are taken with RUN. -/
def execInterruptEnablesWrite (v : Word) (s : State) : Host.Outcome State Fault Refusal := .next (s.writeControl v)

/-! ### The other registers and the reset line -/

/-- STATUS WRITE (R182): each cause and lost flag written with a 1 is cleared. -/
def execStatusWrite (v : Word) (s : State) : Host.Outcome State Fault Refusal :=
  .next (s.onRegs fun g => { g with
    causes := g.causes.afterWrite (Causes.ofWord v)
    lost := g.lost.afterWrite (Lost.ofWord v) })

/-- AREA BASE as a value written to it is taken: the low twelve bits as 0 (R172). -/
def areaBaseOf (v : Word) : Word := v &&& 0xFFFFF000

/-- AREA BASE WRITE (R172): taken while STOPPED, ignored otherwise. -/
def execAreaBaseWrite (v : Word) (s : State) : Host.Outcome State Fault Refusal :=
  .next (if s.regs.device = .stopped then s.onRegs fun g => { g with areaBase := areaBaseOf v } else s)

/-- POWER ON RESET (R178): the RESET line. -/
def execPowerOnReset (s : State) : Host.Outcome State Fault Refusal := .next s.powerOnValues

/-! ### Bus errors -/

/-- The table whose read an access belongs to. -/
def accessTable : BusAccess → Option TableId
  | .tableRead t => some t
  | .revisionRead t => some t
  | .formatRead => none
  | .requestRead => none
  | .statusWrite => none
  | .slotRead => none
  | .slotWrite => none

/-- The read of a table abandoned, if one is in flight (R183). -/
def State.abandonRead (s : State) (t : Option TableId) : State :=
  match t with
  | none => s
  | some i =>
    match s.loader.loads.get i with
    | .reading _ _ => s.setLoad i .idle
    | .idle => s
    | .waiting _ _ _ => s

/-- The accesses the part makes while STOPPED: the cell read of an ATTENTION write and the status write of its request (R183). -/
def accessWhileStopped : BusAccess → Bool
  | .requestRead => true
  | .statusWrite => true
  | .formatRead => false
  | .revisionRead _ => false
  | .tableRead _ => false
  | .slotRead => false
  | .slotWrite => false

/-- A bus error on the access in flight (R183). -/
def State.busErrorNow (s : State) (a : BusAccess) : State :=
  match s.regs.device with
  | .loading => (s.abandonRead (accessTable a)).busErrorMet
  | .running => (s.abandonRead (accessTable a)).busErrorMet
  | .stopped => if accessWhileStopped a then s.busErrorMet else s
  | .halted => s

/-- BUS ERROR (R183): on the access in flight, or waiting for a later access of its kind (log entry 7). -/
def execBusError (e : BusError) (s : State) : Host.Outcome State Fault Refusal :=
  .next (if e.ahead = 0 then s.busErrorNow e.access else { s with busFault := some e })

end Sys2Proof.Machine
end

