-- ==== Sys2Proof/Machine/Steps.lean ====
section
/-! DEFINITION. The meanings of the rows that are steps of a frame end: GLARE REMINDER, MISS, ASK DECISION, LOST, TOO FEW, CONFIRM
EXPIRY and BLINK PERIOD END. Each comes about when the frame end's work has left it owed, and has no effect otherwise (log
entry 4). -/

namespace Sys2Proof.Machine

/-- GLARE REMINDER (R27): the reminder of a 64th frame end in GLARE. -/
def execGlareReminder (c : Chan) (s : State) : Host.Outcome State Fault Refusal := .next (s.stepOwed c .reminder)

/-- MISS (R94): the press window of a channel has reached 0 without a pick. -/
def execMiss (c : Chan) (s : State) : Host.Outcome State Fault Refusal := .next (s.stepOwed c .miss)

/-- ASK DECISION (R129): the Claim Table decides the asks of the frame end. -/
def execAskDecision (s : State) : Host.Outcome State Fault Refusal := .next s.stepAsks

/-- LOST (R137): the loss count of a channel has reached its limit. -/
def execLost (c : Chan) (s : State) : Host.Outcome State Fault Refusal := .next (s.stepOwed c .lost)

/-- TOO FEW (R41): the frame budget of a calibration has reached 0 with fewer than 8 measurements. -/
def execTooFew (c : Chan) (s : State) : Host.Outcome State Fault Refusal := .next (s.stepOwed c .tooFew)

/-- CONFIRM EXPIRY (R114): a confirm countdown has reached 0. -/
def execConfirmExpiry (c : Chan) (s : State) : Host.Outcome State Fault Refusal := .next (s.stepExpiry c)

/-- BLINK PERIOD END (R159): the blink count has reached the period. -/
def execBlinkPeriodEnd (s : State) : Host.Outcome State Fault Refusal := .next s.stepPeriod

end Sys2Proof.Machine
end

