-- ==== Sys2Proof/Machine/Dispatch.lean ====
section
/-! DEFINITION. The dispatch: one arm for each command, each one direct call of its meaning. -/

namespace Sys2Proof.Machine

/-- A command's effect on everything but the queue. -/
def exec (i : Instr) (s : State) : Host.Outcome State Fault Refusal :=
  match i with
  | .frameStart => Sys2Proof.Machine.execFrameStart s
  | .vectorBegin v => Sys2Proof.Machine.execVectorBegin v s
  | .vectorEnd => Sys2Proof.Machine.execVectorEnd s
  | .frameEnd => Sys2Proof.Machine.execFrameEnd s
  | .frameClockSaturation => Sys2Proof.Machine.execFrameClockSaturation s
  | .strike c => Sys2Proof.Machine.execStrike c s
  | .lineLeavesActiveLevel c => Sys2Proof.Machine.execLineLeavesActiveLevel c s
  | .glareOnset c => Sys2Proof.Machine.execGlareOnset c s
  | .glareReminder c => Sys2Proof.Machine.execGlareReminder c s
  | .echoDelivery c => Sys2Proof.Machine.execEchoDelivery c s
  | .switchInputChange input pressed => Sys2Proof.Machine.execSwitchInputChange input pressed s
  | .debounceCompletion input => Sys2Proof.Machine.execDebounceCompletion input s
  | .idleTimeout => Sys2Proof.Machine.execIdleTimeout s
  | .miss c => Sys2Proof.Machine.execMiss c s
  | .askDecision => Sys2Proof.Machine.execAskDecision s
  | .lost c => Sys2Proof.Machine.execLost c s
  | .tooFew c => Sys2Proof.Machine.execTooFew c s
  | .confirmExpiry c => Sys2Proof.Machine.execConfirmExpiry c s
  | .blinkPeriodEnd => Sys2Proof.Machine.execBlinkPeriodEnd s
  | .readEnd t => Sys2Proof.Machine.execReadEnd t s
  | .lockGroup r => Sys2Proof.Machine.execLockGroup r s
  | .unlockGroup r => Sys2Proof.Machine.execUnlockGroup r s
  | .lockAll r => Sys2Proof.Machine.execLockAll r s
  | .unlockAll r => Sys2Proof.Machine.execUnlockAll r s
  | .claim r => Sys2Proof.Machine.execClaim r s
  | .release r => Sys2Proof.Machine.execRelease r s
  | .suspendTrack r => Sys2Proof.Machine.execSuspendTrack r s
  | .resumeTrack r => Sys2Proof.Machine.execResumeTrack r s
  | .calibrate r => Sys2Proof.Machine.execCalibrate r s
  | .cancelCalibration r => Sys2Proof.Machine.execCancelCalibration r s
  | .openSheet r => Sys2Proof.Machine.execOpenSheet r s
  | .homeMenu r => Sys2Proof.Machine.execHomeMenu r s
  | .collect r => Sys2Proof.Machine.execCollect r s
  | .endCollection r => Sys2Proof.Machine.execEndCollection r s
  | .injectStrike r => Sys2Proof.Machine.execInjectStrike r s
  | .unknownRequest code r => Sys2Proof.Machine.execUnknownRequest code r s
  | .attentionWrite => Sys2Proof.Machine.execAttentionWrite s
  | .runSet value => Sys2Proof.Machine.execRunSet value s
  | .stop value => Sys2Proof.Machine.execStop value s
  | .softReset value => Sys2Proof.Machine.execSoftReset value s
  | .interruptEnablesWrite value => Sys2Proof.Machine.execInterruptEnablesWrite value s
  | .statusWrite value => Sys2Proof.Machine.execStatusWrite value s
  | .areaBaseWrite value => Sys2Proof.Machine.execAreaBaseWrite value s
  | .powerOnReset => Sys2Proof.Machine.execPowerOnReset s
  | .busError e => Sys2Proof.Machine.execBusError e s

end Sys2Proof.Machine
end

