-- ==== Sys2Proof/Machine/Idle.lean ====
section
/-! DEFINITION. What happens when no command waits (log entries 2, 4, 5, 10 and 31): a step the frame end in progress still owes, an
event whose own measure of time has come, the next arrival from outside, or a period of the tick clock (section 3.3 of
00_scope.md). -/

namespace Sys2Proof.Machine

/-! ### The tick clock -/

/-- One period of the tick clock on the frame clock: it counts while the frame is OPEN and stops at its last value (R3). -/
def Beam.tick (b : Beam) : Beam := if b.isOpen then { b with clock := min (b.clock + 1) Config.clockMax } else b

/-- One microsecond on a channel's glare timer (R25). -/
def Channel.microTick (x : Channel) : Channel := { x with glareTimer := x.glareTimer.map (· + 1) }

/-- One millisecond on an input's debounce timer (R144). -/
def Switch.milliTick (w : Switch) : Switch := { w with timer := w.timer.map (· + 1) }

/-- One millisecond on the idle timer, stopped while DIM (R149). -/
def Idle.milliTick (i : Idle) : Idle := if i.dim then i else { i with timer := i.timer + 1 }

/-- One period of the tick clock on the blocks, `n` being the count of periods it completes (R3, R25, R144, R145, R149). -/
def State.blocksTick (s : State) (n : Nat) : State :=
  let micro := n % Config.ticksPerMicro = 0
  let milli := n % Config.ticksPerMilli = 0
  let running := s.regs.device = .running
  { s with
    beam := if running then s.beam.tick else s.beam
    chans := if micro then ⟨s.chans.a.microTick, s.chans.b.microTick⟩ else s.chans
    inputs := if milli then s.inputs.map Switch.milliTick else s.inputs
    idle := if milli ∧ running then s.idle.milliTick else s.idle }

/-- The delay of the next arrival from outside, one period shorter. -/
def sooner : List (Nat × Arrival) → List (Nat × Arrival)
  | [] => []
  | (d, x) :: r => (d - 1, x) :: r

/-- One period of the tick clock. In HALTED every block is frozen (R17, R32, R145, R152). -/
def State.tick (s : State) : State :=
  let t := if s.regs.device = .halted then s else s.blocksTick (s.ticks + 1)
  { t with ticks := s.ticks + 1, outside := sooner s.outside }

/-! ### Events of the part's own -/

/-- The command of a step that a channel owes. -/
def Owed.command (o : Owed) (c : Chan) : Instr :=
  match o with
  | .reminder => .glareReminder c
  | .tooFew => .tooFew c
  | .miss => .miss c
  | .lost => .lost c

/-- The next step a channel owes the frame end in progress. -/
def State.owedBy (s : State) (c : Chan) : Option Instr :=
  match s.work.owed.get c with
  | some o => some (o.command c)
  | none => if s.work.expiry.get c then some (.confirmExpiry c) else none

/-- Whether a channel's due echo has been reached by the frame clock (R30). -/
def State.echoReached (s : State) (c : Chan) : Bool :=
  s.beam.isOpen && ((s.chan c).echo.dueTime.map fun t => decide (t ≤ s.beam.clock)).getD false

/-- Whether a channel's glare timer exceeds its threshold (R25, R26). -/
def State.glareReached (s : State) (c : Chan) : Bool :=
  s.canGlare c && decide ((s.chanConfig c).glareThreshold < (s.chan c).glareTimer.getD 0)

/-- Whether an input has held its new level for the debounce time (R144). -/
def State.debounceReached (s : State) (i : Fin 8) : Bool :=
  ((s.inputs.get i).timer.map fun t => decide (s.config.debounce ≤ t)).getD false

/-- Whether the idle timer has reached a non-zero idle time (R149). -/
def State.idleReached (s : State) : Bool := !s.idle.dim && s.idleTime != 0 && decide (s.idleTime ≤ s.idle.timer)

/-- The debounces that have come, all that the timers can bring in STOPPED and LOADING. -/
def State.debounceEvents (s : State) : List Instr := (s.inputOrder.filter s.debounceReached).map .debounceCompletion

/-- The events of the timers that have come. Their places in the list settle nothing: which is taken first is a free value. -/
def State.timerEvents (s : State) (first second : Chan) : List Instr :=
  (if s.echoReached first then [.echoDelivery first] else []) ++ (if s.echoReached second then [.echoDelivery second] else []) ++
  (if s.glareReached first then [.glareOnset first] else []) ++ (if s.glareReached second then [.glareOnset second] else []) ++
  s.debounceEvents ++ (if s.idleReached then [.idleTimeout] else [])

/-- One of the events that come at one moment. DESIGN CHOICE (log entry 31): the spec gives no order to an echo delivery, a glare
onset, a debounce completion and the idle timeout that come together (R30, R149, R150, section 11.2), and a free value picks. -/
def State.oneOf (s : State) : List Instr → Option Instr
  | [] => none
  | [i] => some i
  | i :: j :: r => (i :: j :: r)[Config.timerFirst s.choices % (r.length + 2)]?

/-- The next event of the part's own, if one has come: what the frame end in progress owes first (log entry 4), then one of the
events of the timers. The two channels' owed steps stand in the order of the free value (log entry 3). -/
def State.dueEvent (s : State) : Option Instr :=
  let first := if Config.channelBFirst s.choices then Chan.b else Chan.a
  let second := otherChan first
  match s.regs.device with
  | .running =>
    (s.owedBy first).or ((s.owedBy second).or (if s.work.period then some .blinkPeriodEnd
      else if s.claims.asks.a.isSome ∨ s.claims.asks.b.isSome then some .askDecision
      else s.oneOf (s.timerEvents first second)))
  | .stopped | .loading => s.oneOf s.debounceEvents
  | .halted => none

/-! ### Arrivals -/

/-- The reads in flight as far as they have come when a write of the host's lands (log entry 6). In HALTED nothing is read
(R183): a read that the halt found in flight stands still. -/
def State.advanceReads (s : State) : State :=
  s.andThen fun t => (((t.advanceRead .config).advanceRead .group).advanceRead .view).advanceRead .menu

/-- Something from outside arrives: a command waits in the queue; a write of the host's lands in memory, and the reads in flight
have come as far as they have (log entries 2 and 6). -/
def State.arrive (s : State) : Arrival → State
  | .command i => { s with pending := s.pending ++ [i] }
  | .hostWrite a bs =>
    let t := s.advanceReads
    { t with mem := Memory.writeBytes t.mem a bs }

/-- The arrival that has come, if one has, and what is still to come. -/
def arrived : List (Nat × Arrival) → Option (Arrival × List (Nat × Arrival))
  | [] => none
  | (0, x) :: r => some (x, r)
  | (_ + 1, _) :: _ => none

/-- What the part does when no command waits. -/
def State.idleStep (s : State) : Host.Outcome State Fault Refusal :=
  let t := { s with choices := s.choices + 1 }
  match arrived s.outside, s.dueEvent with
  | none, none => .next s.tick
  | none, some i => exec i t
  | some (x, r), none => .next ({ t with outside := r }.arrive x)
  | some (x, r), some i =>
    if Config.arrivalFirst s.choices then .next ({ t with outside := r }.arrive x) else exec i t

end Sys2Proof.Machine
end

