-- ==== Sys2Proof/Machine/Feedback.lean ====
section
/-! DEFINITION. What the Feedback Unit presents on the feedback link (10_display_feedback.md): views of state that other blocks own,
and of the highlight entries and the blink generator (R153, R154, R156, R157, R159). -/

namespace Sys2Proof.Machine

/-- The modes of a highlight (R153). -/
inductive HighlightMode where
  | steady
  | blinkOn
  | off
deriving DecidableEq, Repr

/-- A channel's highlight (R153). -/
structure Highlight where
  group : Nat
  tag : Nat
  mode : HighlightMode
deriving DecidableEq, Repr

/-- A channel's cross (R153). -/
structure Cross where
  on : Bool
  centre : Point
  armLength : Nat
deriving DecidableEq, Repr

/-- Whether the phase of a RUNNING blink generator is on (R159). -/
def Feedback.phaseOn (f : Feedback) : Bool := (f.blink.map fun k => decide (k < f.onCount)).getD false

/-- The tag of a channel's armed button. -/
def State.armedTag (s : State) (c : Chan) : Option Nat :=
  (s.menu c).armed.map fun k => (((s.tables.sheet k.1).buttons[k.2]?).map Button.tag).getD 0

/-- A channel's highlight: the first case of R154 that holds. A channel in TRACKING has a tracked element until it leaves that state. -/
def State.highlight (s : State) (c : Chan) : Highlight :=
  match s.armedTag c with
  | some tag => ⟨menuGroup c, tag, if s.feedback.phaseOn then .blinkOn else .off⟩
  | none =>
    match (s.chan c).mode with
    | .tracking =>
      match (s.chan c).tracked with
      | some e => ⟨e.1, e.2, .steady⟩
      | none => ⟨0, 0, .off⟩
    | .watch | .pressed =>
      match s.feedback.entry.get c with
      | some e => ⟨e.1, e.2, .steady⟩
      | none => ⟨0, 0, .off⟩
    | .off | .calibrating | .suspended | .glare => ⟨0, 0, .off⟩

/-- A channel's cross (R156); L is 32 until the start installs the first configuration. -/
def State.cross (s : State) (c : Chan) : Cross :=
  ⟨(s.chan c).mode == .tracking, (s.chan c).centre, (s.chanConfig c).armLength⟩

/-- A channel's shown sheet: the top of its menu stack (R156). -/
def State.shownSheet (s : State) (c : Chan) : Nat := (s.menu c).top

/-- The DIM value (R157). -/
def State.dimShown (s : State) : Bool := s.idle.dim

end Sys2Proof.Machine
end

