-- ==== Sys2Proof/Safety.lean ====
section
/-! DEFINITION. What the statements speak of: what the outside sees of a state, what is quiet, and the laws that spec/ says hold at
every moment (R10, R23, R33, R85, R102, R108, R124, R127, R162, R165, R172), each as a property of one state. -/

namespace Sys2Proof

/-- The commands that may lead out of HALTED: the writes of CONTROL and the RESET line (R177, R178). -/
def Instr.leavesHalted : Instr → Bool
  | .runSet _ | .stop _ | .softReset _ | .interruptEnablesWrite _ | .powerOnReset => true
  | .frameStart | .vectorBegin _ | .vectorEnd | .frameEnd | .frameClockSaturation | .strike _ | .lineLeavesActiveLevel _
  | .glareOnset _ | .glareReminder _ | .echoDelivery _ | .switchInputChange _ _ | .debounceCompletion _ | .idleTimeout
  | .miss _ | .askDecision | .lost _ | .tooFew _ | .confirmExpiry _ | .blinkPeriodEnd | .readEnd _ | .lockGroup _
  | .unlockGroup _ | .lockAll _ | .unlockAll _ | .claim _ | .release _ | .suspendTrack _ | .resumeTrack _ | .calibrate _
  | .cancelCalibration _ | .openSheet _ | .homeMenu _ | .collect _ | .endCollection _ | .injectStrike _
  | .unknownRequest _ _ | .attentionWrite | .statusWrite _ | .areaBaseWrite _ | .busError _ => false

/-- The channel field that names a channel (header table of section 12.2). -/
def chanField : Chan → BitVec 8
  | .a => 0
  | .b => 1

/-- The channel field of a request names neither channel. -/
def RequestArgs.namesNone (r : RequestArgs) : Prop := ∀ c, r.channel ≠ chanField c

end Sys2Proof

namespace Sys2Proof.Machine

/-! ### Quiet states -/

/-- No bus error waits for an access: every access goes through. -/
def State.busQuiet (s : State) : Prop := s.busFault = none

/-- No frame end is in progress: nothing is owed and nothing is asked (log entry 4). -/
def State.frameQuiet (s : State) : Prop := s.work = FrameWork.none ∧ s.claims.asks = ⟨none, none⟩

/-- The Log Writer writes the next record at once: the holds are empty and the next slot reads FREE (R164). -/
def State.logReady (s : State) : Prop := s.log.held = [] ∧ s.slotFree = true

/-! ### Memory -/

/-- Two states agree on every byte of host memory outside some ranges, each an address and a length. -/
def sameExcept (s t : State) (ranges : List (Nat × Nat)) : Prop :=
  ∀ k, (∀ r ∈ ranges, k < r.1 ∨ r.1 + r.2 ≤ k) → Memory.read t.mem k = Memory.read s.mem k

/-- Where the fields of the request cell stand (header table of section 12.2). -/
def State.cellRange (s : State) : Nat × Nat := (s.area 0x20, 12)

/-- Where the status section stands (R172). -/
def State.statusRange (s : State) : Nat × Nat := (s.area 0x40, 192)

/-- Where the slot at the next slot index stands (R162). -/
def State.slotRange (s : State) : Nat × Nat := (s.area (slotOffset s.log.nextSlot), 64)

/-! ### Arithmetic -/

/-- `q` is `n / d` rounded to the nearest integer, halves away from zero (section 3.1 of 00_scope.md). -/
def isRounded (q n : Int) (d : Nat) : Prop := 2 * |q * d - n| ≤ d ∧ (2 * |q * d - n| = d → |n| < |q * d|)

/-! ### Records and requests -/

/-- The 64 bytes of a record written with a record number (R163, R168, R169; log entry 32 for the bits R169 does not list). -/
def slotBytes (r : Record) (number : Nat) : List Byte := (r.word0 :: r.wordsAfter number).flatMap bytes32

/-- From `s` to `t` one record has been written into the next slot (R163), and no other record has been made. -/
def recorded (s t : State) (r : Record) : Prop :=
  t.log = ⟨(s.log.nextSlot + 1) % 64, (s.log.recordNumber + 1) % 65536, []⟩ ∧ t.regs.causes.log = true ∧
    t.regs.lost = s.regs.lost ∧ t.areaBytes (slotOffset s.log.nextSlot) 64 = slotBytes r s.log.recordNumber

/-- The slot after the next one reads FREE, so that a second record is written at once too (R162, R164). -/
def State.secondFree (s : State) : Prop := Memory.read s.mem (s.area (slotOffset ((s.log.nextSlot + 1) % 64))) = 0

/-- Where the slot after the next one stands (R162). -/
def State.secondRange (s : State) : Nat × Nat := (s.area (slotOffset ((s.log.nextSlot + 1) % 64)), 64)

/-- From `s` to `t` two records have been made, in this order, and no other: the first is written into the next slot (R163), and
the second into the slot after it where that reads FREE, and otherwise it is held (R164, R165). -/
def recordedBoth (s t : State) (first second : Record) : Prop :=
  t.regs.causes.log = true ∧ t.regs.lost = s.regs.lost ∧
    t.areaBytes (slotOffset s.log.nextSlot) 64 = slotBytes first s.log.recordNumber ∧
    (s.secondFree → t.log = ⟨(s.log.nextSlot + 2) % 64, (s.log.recordNumber + 2) % 65536, []⟩ ∧
      t.areaBytes (slotOffset ((s.log.nextSlot + 1) % 64)) 64 = slotBytes second ((s.log.recordNumber + 1) % 65536)) ∧
    (¬s.secondFree → t.log = ⟨(s.log.nextSlot + 1) % 64, (s.log.recordNumber + 1) % 65536, [second]⟩)

/-- Whether a pick of a tag completes a channel's collection: one tag remains and the list does not hold this one (R102). -/
def State.completes (s : State) (c : Chan) (tag : Nat) : Bool :=
  match (s.chan c).collection with
  | none => false
  | some x => x.remaining == 1 && !x.tags.contains tag

/-- A channel's collection, if one is active, has tags remaining; `State.collectInv` says that it always has. -/
def State.collectionOpen (s : State) (c : Chan) : Prop := ∀ x, (s.chan c).collection = some x → 1 ≤ x.remaining

/-- Where the PICK record of a pick of a tag goes, and the SEQUENCE END record if it completes the channel's collection (R102). -/
def State.pickRanges (s : State) (c : Chan) (tag : Nat) : List (Nat × Nat) :=
  s.slotRange :: if s.completes c tag then [s.secondRange] else []

/-- From `s` to `t` a PICK record of a pick has been made, with its place in the channel's collection (R99, R102): position 0 without
one; the place of its tag, with the REPEAT note, where the list holds the tag; otherwise the next place, and where that completes
the collection a SEQUENCE END record with outcome COMPLETE follows and the collection is inactive. -/
def pickRecorded (s t : State) (c : Chan) (k : Pick) (n : Notes) (tracking : Bool) : Prop :=
  let pick := fun (again : Bool) (position : Nat) => (⟨.chan c, s.beam.frame, { n with echo := k.echo, again := again },
    .pick k (loftPoint s.tables k.group k.point) position tracking⟩ : Record)
  ((s.chan c).collection = none → recorded s t (pick false 0) ∧ (t.chan c).collection = none) ∧
    ∀ x, (s.chan c).collection = some x →
      (∀ pre post, x.tags = pre ++ k.tag :: post → k.tag ∉ pre →
        recorded s t (pick true (pre.length + 1)) ∧ (t.chan c).collection = some x) ∧
      (k.tag ∉ x.tags → 2 ≤ x.remaining →
        recorded s t (pick false (x.tags.length + 1)) ∧
          (t.chan c).collection = some ⟨x.requested, x.remaining - 1, x.tags ++ [k.tag]⟩) ∧
      (k.tag ∉ x.tags → x.remaining = 1 →
        recordedBoth s t (pick false (x.tags.length + 1))
            ⟨.chan c, s.beam.frame, {}, .sequenceEnd .complete x.requested (x.tags ++ [k.tag])⟩ ∧
          (t.chan c).collection = none)

/-- From `s` to `t` no record has been made. -/
def unrecorded (s t : State) : Prop :=
  t.log = s.log ∧ t.regs.causes.log = s.regs.causes.log ∧ t.regs.lost = s.regs.lost

/-- What no request reaches: the beam, the inputs, the Idle Monitor, the Table Loader, and the model's own fields. -/
def requestFrame (s t : State) : Prop :=
  t.pending = s.pending ∧ t.beam = s.beam ∧ t.inputs = s.inputs ∧ t.idle = s.idle ∧ t.loader = s.loader ∧
    t.work = s.work ∧ t.busFault = s.busFault ∧ t.outside = s.outside ∧ t.ticks = s.ticks ∧ t.choices = s.choices

/-- What no request reaches in the registers: all but the causes LOG and REQUEST and the lost flags. -/
def requestRegs (s t : State) : Prop :=
  t.regs.device = s.regs.device ∧ t.regs.areaBase = s.regs.areaBase ∧ t.regs.run = s.regs.run ∧
    t.regs.enables = s.regs.enables ∧ t.regs.faultKind = s.regs.faultKind ∧
    t.regs.causes.load = s.regs.causes.load ∧ t.regs.causes.fault = s.regs.causes.fault

/-- From `s` to `t` a request has been taken with an outcome and has completed (R180): the Request Handler holds its sequence and
outcome, the status section shows them, and REQUEST is set. -/
def requestDone (s t : State) (r : RequestArgs) (o : ReqOutcome) : Prop :=
  t.requests = ⟨r.seq, o⟩ ∧ t.areaBytes 0x40 2 = [r.seq, BitVec.ofNat 8 o.code] ∧ t.regs.causes.request = true ∧
    requestRegs s t ∧ requestFrame s t

/-- The blink generator and the periods of the Feedback Unit stay as they are; a highlight entry may be chosen anew (R155). -/
def sameBlink (s t : State) : Prop :=
  t.feedback.blink = s.feedback.blink ∧ t.feedback.period = s.feedback.period ∧ t.feedback.onCount = s.feedback.onCount ∧
    t.feedback.waiting = s.feedback.waiting

/-- From `s` to `t` a request has been refused with an outcome: it has completed and nothing else has changed (R180). -/
def requestRefused (s t : State) (r : RequestArgs) (o : ReqOutcome) : Prop :=
  requestDone s t r o ∧ unrecorded s t ∧ t.chans = s.chans ∧ t.menus = s.menus ∧ t.claims = s.claims ∧ t.locks = s.locks ∧
    sameBlink s t ∧ sameExcept s t [s.cellRange, s.statusRange]

/-- A request with this cell is taken when it is made: not HALTED, no bus error waiting, no frame end in progress, memory in its
canonical form, and a new sequence (R179). -/
def State.accepts (s : State) (r : RequestArgs) : Prop :=
  s.regs.device ≠ .halted ∧ s.busQuiet ∧ s.frameQuiet ∧ Memory.wf s.mem ∧ r.seq ≠ 0 ∧ r.seq ≠ s.requests.lastTaken

/-! ### The laws -/

/-- An entry whose end, if it has one, is not before its begin nor after a time. -/
def Entry.endedBy (e : Entry) (now : Nat) : Bool :=
  match e.ended with
  | none => true
  | some t => decide (e.begun ≤ t ∧ t ≤ now)

/-- The law of the trail (R10): at most 32 entries in non-decreasing order of begin time, no ended entry with its end before its
begin, and only the newest unended; none unended in a CLOSED frame (R7). -/
def Beam.law (b : Beam) : Prop :=
  b.clock ≤ Config.clockMax ∧ b.trail.length ≤ Config.trailMax ∧ b.trail.Pairwise (fun x y => x.begun ≤ y.begun) ∧
    (∀ e ∈ b.trail, e.begun ≤ b.clock ∧ e.endedBy b.clock = true) ∧ (∀ e ∈ b.trail.dropLast, e.ended.isSome = true) ∧
    (b.isOpen = false → ∀ e ∈ b.trail, e.ended.isSome = true)

/-- The times of the echoes lie within the frame clock's range (R29). -/
def Echo.law : Echo → Prop
  | .none => True
  | .scheduled t => t ≤ Config.clockMax
  | .due t => t ≤ Config.clockMax

/-- The law of the trail, with what it needs of the echoes that set the frame clock going. -/
def State.trailInv (s : State) : Prop := s.beam.law ∧ s.chans.a.echo.law ∧ s.chans.b.echo.law

/-- The law of a channel's strikes (R23, R24): at most four taken, each pending or resolved at most once. -/
def Channel.strikeLaw (x : Channel) : Prop :=
  x.strikes ≤ Config.strikesMax ∧ x.pendingStrikes.length + x.results.length ≤ x.strikes

/-- The law of a qualification table (R85): at most four entries, no two of one pair, each with a sighting. -/
def tableLaw (t : List Qual) : Prop :=
  t.length ≤ Config.tableMax ∧ (t.map fun q => (q.group, q.tag)).Nodup ∧ ∀ q ∈ t, q.sightings ≠ []

/-- The law of a collection (R102): the tags and what remains make up the requested count, and no tag stands twice. -/
def collectionLaw (k : Option Collection) : Prop :=
  match k with
  | none => True
  | some x => x.remaining + x.tags.length = x.requested ∧ x.requested ≤ 16 ∧ x.tags.Nodup

/-- The law of collections at every moment: a collection with nothing remaining is ended at once, unless the device has entered
HALTED on the way (R102, R104). -/
def State.collectInv (s : State) (c : Chan) : Prop :=
  collectionLaw (s.chan c).collection ∧
    (s.regs.device = .halted ∨ (s.chan c).collection.map Collection.remaining ≠ some 0)

/-- The law of the Claim Table (R124): at most 8 entries, each tag at most once. -/
def claimsLaw (claims : List Claim) : Prop := claims.length ≤ Config.claimsMax ∧ (claims.map Claim.tag).Nodup

/-- The claims of a channel's pen. -/
def penClaims (claims : List Claim) (c : Chan) : List Claim := claims.filter fun k => k.holder == .pen c

/-- The claim law of a channel (R127): in TRACKING or SUSPENDED exactly one claim, on the tag it tracks; none otherwise. A bus error
between the end of tracking and the change of state of R20 or R26 freezes a channel in HALTED with its tracked element and without the
claim (log entry 21). -/
def State.trackLaw (s : State) (c : Chan) : Prop :=
  if (s.chan c).mode = .tracking ∨ (s.chan c).mode = .suspended then
    ∃ e, (s.chan c).tracked = some e ∧
      (penClaims s.claims.entries c = [⟨e.2, .pen c⟩] ∨ (s.regs.device = .halted ∧ penClaims s.claims.entries c = []))
  else penClaims s.claims.entries c = []

/-- What a channel owes or asks belongs to the state it is in, and only a frame end in progress in RUNNING leaves anything owed or
asked; HALTED freezes whatever it finds. -/
def State.workLaw (s : State) (c : Chan) : Prop :=
  s.regs.device = .halted ∨
    ((s.work.owed.get c ≠ none → s.regs.device = .running ∧ s.work.active = true) ∧
      (s.claims.asks.get c ≠ none → s.regs.device = .running ∧ (s.chan c).mode = .pressed ∧ s.work.owed.get c = none) ∧
      (s.work.owed.get c = some .miss → (s.chan c).mode = .pressed) ∧
      (s.work.owed.get c = some .tooFew → (s.chan c).mode = .calibrating) ∧
      (s.work.owed.get c = some .lost → (s.chan c).mode = .tracking))

/-- The law of tracking and claims at every moment (R124, R127), with what a frame end in progress adds to it. -/
def State.claimInv (s : State) : Prop :=
  claimsLaw s.claims.entries ∧ (s.trackLaw .a ∧ s.trackLaw .b) ∧ s.workLaw .a ∧ s.workLaw .b

/-- The law of the Log Writer (R162, R165): a slot index below 64, and in each hold at most 4 records with at most one TRACK. -/
def LogWriter.law (l : LogWriter) : Prop :=
  l.nextSlot < 64 ∧ l.recordNumber < 65536 ∧
    ∀ src : Source, (l.hold src).length ≤ Config.holdMax ∧ ((l.hold src).filter Record.isTrack).length ≤ 1

/-- AREA BASE is a multiple of 4096 (R172). -/
def Registers.law (g : Registers) : Prop := g.areaBase.toNat % 4096 = 0

/-- The law of a menu stack (R108): 1 to 4 sheets, the home sheet in use at the bottom. -/
def Menu.law (m : Menu) : Prop := m.stack.head? = some m.home ∧ m.stack.length ≤ Config.stackMax

/-- An armed button lies on the top sheet of its channel (R154). -/
def Menu.armedLaw (m : Menu) : Prop :=
  match m.armed with
  | none => True
  | some k => k.1 = m.top

/-- The law of a menu table: at least one sheet (R106), and no live OPEN button whose target is not below the sheet count (R107). -/
def menuTableLaw (sheets : List Sheet) : Prop :=
  sheets ≠ [] ∧
    ∀ sh ∈ sheets, ∀ b ∈ sh.buttons, b.kind = some .openSheet → b.inert = false → b.target < sheets.length

/-- A menu table that waits keeps its law. -/
def Load.menuLaw : Load → Prop
  | .waiting _ (.menu m) _ => menuTableLaw m
  | .waiting _ (.config _) _ => True
  | .waiting _ (.group _) _ => True
  | .waiting _ (.view _) _ => True
  | .idle => True
  | .reading _ _ => True

/-- No menu table waits in another table's place. -/
def Load.noMenu : Load → Prop
  | .waiting _ (.menu _) _ => False
  | .waiting _ (.config _) _ => True
  | .waiting _ (.group _) _ => True
  | .waiting _ (.view _) _ => True
  | .idle => True
  | .reading _ _ => True

/-- The law of the menus (R108, R154): both stacks, with every entry below the installed sheet count, and both armed buttons; and the law
of the menu tables installed and waiting. -/
def State.menuInv (s : State) : Prop :=
  s.menus.a.law ∧ s.menus.b.law ∧ s.menus.a.armedLaw ∧ s.menus.b.armedLaw ∧
    (∀ n ∈ s.menus.a.stack, n < s.tables.sheets.length) ∧ (∀ n ∈ s.menus.b.stack, n < s.tables.sheets.length) ∧
    menuTableLaw s.tables.sheets ∧ s.loader.loads.config.noMenu ∧ s.loader.loads.group.noMenu ∧
    s.loader.loads.view.noMenu ∧ s.loader.loads.menu.menuLaw

/-- The delay overrides of a configuration lie within 0 to 511 (R34, section 12.2). -/
def Configuration.delayLaw (c : Configuration) : Prop := c.chans.a.delayOverride ≤ 511 ∧ c.chans.b.delayOverride ≤ 511

/-- The configuration of a waiting copy, if it is one, keeps the range of its delay overrides. -/
def Load.delayLaw : Load → Prop
  | .waiting _ (.config c) _ => c.delayLaw
  | .waiting _ (.group _) _ => True
  | .waiting _ (.view _) _ => True
  | .waiting _ (.menu _) _ => True
  | .idle => True
  | .reading _ _ => True

/-- The working delay and the measurements of a channel lie within 0 to 511 ticks (R33, R37). -/
def Channel.delayLaw (x : Channel) : Prop := x.delay ≤ 511 ∧ ∀ m ∈ x.measures, m.ticks ≤ 511

/-- The law of the working delays (R33), with what it needs of the configurations. -/
def State.delayInv (s : State) : Prop :=
  s.chans.a.delayLaw ∧ s.chans.b.delayLaw ∧ s.config.delayLaw ∧ s.loader.loads.config.delayLaw ∧
    s.loader.loads.group.delayLaw ∧ s.loader.loads.view.delayLaw ∧ s.loader.loads.menu.delayLaw

/-- The law of strikes (R23, R24): both channels', with no strike pending in a CLOSED frame (R7), and no frame OPEN in STOPPED or
LOADING (R17). -/
def State.strikeInv (s : State) : Prop :=
  s.chans.a.strikeLaw ∧ s.chans.b.strikeLaw ∧
    (s.beam.isOpen = false → s.chans.a.pendingStrikes = [] ∧ s.chans.b.pendingStrikes = []) ∧
    (s.regs.device = .stopped ∨ s.regs.device = .loading → s.beam.isOpen = false)

end Sys2Proof.Machine
end

