-- ==== Sys2Proof/Certificates/Slice0/Obligations.lean ====
section
/-! DEFINITION. The statements for the provers. Each says what its name says; its docstring names the rules it rests on and, where a
clause is the model's own, the log entry. -/

open Sys2Proof Sys2Proof.Machine

/-! ### The step and reset -/

/-- A step runs the command at the front of the queue on the state with the rest of the queue. -/
def Obligations.StepRunsFrontCommand : Prop :=
  ∀ (s : State) (c : Instr) (rest : List Instr), s.pending = c :: rest → step s = exec c { s with pending := rest }

/-- With nothing waiting, nothing arriving and nothing due, a step is one period of the tick clock: the frame clock of an OPEN
frame in RUNNING counts one and stops at its last value (R3). That a step on an empty queue is a tick is the model's choice (log
entry 5). -/
def Obligations.StepTicksWhenIdle : Prop :=
  ∀ s : State, s.pending = [] → s.outside = [] → s.dueEvent = none →
    ∃ t, step s = .next t ∧ t.ticks = s.ticks + 1 ∧
      (s.regs.device = .running → s.beam.isOpen = true →
        t.beam = { s.beam with clock := min (s.beam.clock + 1) 16777215 }) ∧
      (s.regs.device ≠ .running ∨ s.beam.isOpen = false → t.beam = s.beam) ∧
      t.pending = [] ∧ t.regs = s.regs ∧ t.mem = s.mem ∧ t.log = s.log ∧ t.loader = s.loader ∧ t.menus = s.menus ∧
      t.claims = s.claims ∧ t.requests = s.requests ∧ t.locks = s.locks

/-- The values the spec gives after power-on reset (R17, R32, R45, R75, R104, R109, R123, R143, R152, R161, R171, R174, R176,
R178 and section 12.7). The levels of the pins are left out (log entry 1), and with them the debounced levels, which follow them
(R152); so are the frame number of the last load outcome (log entry 29) and the count of frames that a MISS reports (log entry
18). -/
def Obligations.ResetValues : Prop :=
  State.reset.regs = ⟨0, false, ⟨false, false, false, false⟩, ⟨false, false, false, false⟩, .none, ⟨false, false, false⟩, .stopped⟩ ∧
    State.reset.beam = ⟨false, 0, 0, [], false, false⟩ ∧
    (∀ c, State.reset.chan c =
      { mode := .off, lineHigh := (State.reset.chan c).lineHigh, glareTimer := none, strikes := 0, pendingStrikes := []
        results := [], glareFrames := 0, reminders := 0, reminderPhase := 0, echo := .none, delay := 0, cableClass := none
        delayOverride := none, dotTag := none, measures := [], measured := false, budget := 0, lastCal := none, table := []
        windowCount := 0, windowFrames := (State.reset.chan c).windowFrames, press := none, stage := .noStrike
        windowResults := 0, windowEcho := false, collection := none, tracked := none, centre := ⟨0, 0⟩, loss := 0
        duration := 0, echoInCentre := false }) ∧
    (∀ c g, State.reset.locked c g = false) ∧ State.reset.claims = ⟨[], ⟨none, none⟩, none⟩ ∧
    (∀ c, State.reset.menu c = { stack := [0], home := 0, toggles := [], choices := [], armed := none, countdown := 0 }) ∧
    (∀ n : Fin 8, (State.reset.inputs.get n).level = (State.reset.inputs.get n).raw ∧ (State.reset.inputs.get n).timer = none) ∧
    State.reset.idle = ⟨false, 0⟩ ∧ State.reset.feedback = ⟨⟨none, none⟩, none, 20, 10, none⟩ ∧
    State.reset.tables = { config := none, groups := [], views := [], sheets := [⟨false, none, []⟩] } ∧
    State.reset.loader.revisions = ⟨none, none, none, none⟩ ∧ State.reset.loader.loads = ⟨.idle, .idle, .idle, .idle⟩ ∧
    State.reset.loader.outcome.installed = ⟨false, false, false, false⟩ ∧
    State.reset.loader.outcome.revisions = ⟨0, 0, 0, 0⟩ ∧ State.reset.loader.outcome.counts = ⟨0, 0, 0, 0⟩ ∧
    (State.reset.config.debounce = 5 ∧ State.reset.config.reportMask = 0xFF ∧ State.reset.config.idleSeconds = 600 ∧
      State.reset.config.strikeGate = ⟨true, false⟩ ∧ State.reset.config.penGate = ⟨true, false⟩ ∧
      State.reset.config.consoleGate = ⟨true, true⟩) ∧
    State.reset.log = ⟨0, 0, []⟩ ∧ State.reset.requests = ⟨0, .done⟩ ∧
    (∀ c, State.reset.highlight c = ⟨0, 0, .off⟩ ∧ State.reset.cross c = ⟨false, ⟨0, 0⟩, 32⟩ ∧ State.reset.shownSheet c = 0)

/-! ### The laws that every step keeps, and that they hold at reset -/

/-- Every law below holds right after reset. -/
def Obligations.LawsHoldAtReset : Prop :=
  Memory.wf State.reset.mem ∧ State.reset.regs.law ∧ State.reset.trailInv ∧ State.reset.strikeInv ∧ State.reset.log.law ∧
    State.reset.claimInv ∧ State.reset.menuInv ∧ State.reset.delayInv ∧
    ∀ c, tableLaw (State.reset.chan c).table ∧ State.reset.collectInv c

/-- Every step keeps host memory in its canonical form (log entry 8) and AREA BASE a multiple of 4096 (R172). -/
def Obligations.StepKeepsMemoryAndBase : Prop :=
  ∀ s t : State, Memory.wf s.mem → s.regs.law → step s = .next t → Memory.wf t.mem ∧ t.regs.law

/-- Every step keeps the law of the trail (R10): at most 32 entries in order of begin time, no end before its begin, at most the
newest unended. -/
def Obligations.StepKeepsTrailLaw : Prop := ∀ s t : State, s.trailInv → step s = .next t → t.trailInv

/-- Every step keeps the law of strikes (R23, R24): at most four taken in a frame, each pending or resolved once, none pending
in a CLOSED frame. -/
def Obligations.StepKeepsStrikeLaw : Prop := ∀ s t : State, s.strikeInv → step s = .next t → t.strikeInv

/-- Every step keeps the law of the Log Writer (R162, R165): the slot index below 64, at most four records in a hold, at most
one of them a TRACK. -/
def Obligations.StepKeepsLogLaw : Prop := ∀ s t : State, s.log.law → step s = .next t → t.log.law

/-- Every step keeps the law of claims (R124, R127): at most 8 entries, each tag at most once, and a pen's one claim held
exactly while its channel is TRACKING or SUSPENDED, on the tag it tracks. A channel that a bus error freezes in HALTED between
the end of its tracking and the change of its state keeps its tracked element without the claim; that it does so is read from
R20, R26 and R153 by inference (log entry 21). -/
def Obligations.StepKeepsClaimLaw : Prop := ∀ s t : State, s.claimInv → step s = .next t → t.claimInv

/-- Every step keeps the law of the menus (R108, R154): 1 to 4 sheets on a stack, the home sheet in use at the bottom and each
below the installed sheet count, and an armed button on the top sheet. With it go what pushes and installs need: in every menu
table, installed or waiting, at least one sheet (R106) and no live OPEN button whose target does not exist (R107). -/
def Obligations.StepKeepsMenuLaw : Prop := ∀ s t : State, s.menuInv → step s = .next t → t.menuInv

/-- Every step keeps each channel's working delay, and each measurement, within 0 to 511 ticks (R33). -/
def Obligations.StepKeepsDelayRange : Prop := ∀ s t : State, s.delayInv → step s = .next t → t.delayInv

/-- Every step keeps the law of the qualification tables (R85): at most four entries, no two of one pair, each with a sighting;
and the law of collections (R101, R102): the tags and what remains make up the requested count, and no tag stands twice. -/
def Obligations.StepKeepsTableAndCollectionLaws : Prop :=
  ∀ s t : State, (∀ c, tableLaw (s.chan c).table ∧ s.collectInv c) → step s = .next t →
    ∀ c, tableLaw (t.chan c).table ∧ t.collectInv c

/-! ### HALTED -/

/-- In HALTED every block is frozen (R1, R17, R32, R45, R104, R123, R143, R152, R161, R171, R183): whatever command but a
CONTROL write or a reset comes, only pins, cleared flags and the host's own cell change. AREA BASE, RUN, the enables, the fault
kind and the device state stay; no cause and no lost flag is set, and one is cleared only by STATUS WRITE (R182). A bus error
that is to meet a later access waits (log entry 7). -/
def Obligations.HaltedIsFrozen : Prop :=
  ∀ (i : Instr) (s t : State), s.regs.device = .halted → i.leavesHalted = false → exec i s = .next t →
    t.regs = { s.regs with causes := t.regs.causes, lost := t.regs.lost } ∧
      ((t.regs.causes.log → s.regs.causes.log) ∧ (t.regs.causes.request → s.regs.causes.request) ∧
        (t.regs.causes.load → s.regs.causes.load) ∧ (t.regs.causes.fault → s.regs.causes.fault) ∧
        (t.regs.lost.a → s.regs.lost.a) ∧ (t.regs.lost.b → s.regs.lost.b) ∧
        (t.regs.lost.console → s.regs.lost.console)) ∧
      ((∀ v, i ≠ .statusWrite v) → t.regs = s.regs) ∧
      t.beam = s.beam ∧ t.menus = s.menus ∧ t.claims = s.claims ∧ t.idle = s.idle ∧
      t.feedback = s.feedback ∧ t.loader = s.loader ∧ t.log = s.log ∧ t.requests = s.requests ∧ t.locks = s.locks ∧
      t.work = s.work ∧ t.pending = s.pending ∧
      (∀ c, t.chan c = { s.chan c with lineHigh := (t.chan c).lineHigh }) ∧
      (∀ n : Fin 8, (t.inputs.get n).level = (s.inputs.get n).level ∧ (t.inputs.get n).timer = (s.inputs.get n).timer) ∧
      sameExcept s t [s.cellRange]

/-! ### Beam notes -/

/-- FRAME START in RUNNING opens a new frame, closing an OPEN one first (R5, R6, R8, R23, R24, R38), that is as a FRAME END with
all that its frame end owes. In the frame opened each scheduled echo is due (R30). Then the WAITING tables are installed (R175;
what an install does is StartMakesRunning's), both highlights are chosen with the claims as they stand (R155), the revisions of the
four tables are looked at (R173; ReadEndWaitsOrDiscards), the request cell is sampled as at an ATTENTION write (R179;
UnknownRequestAndAttention) and the holds are drained (R167; RecordsWaitForASlot). With no table WAITING a scheduled echo is due
when the FRAME START is over. That these stand in this order, and the four looks in that of the status section, is the model's
choice (log entry 30). In STOPPED and HALTED it is ignored (R1). -/
def Obligations.FrameStartOpensFrame : Prop :=
  ∀ s : State,
    (s.regs.device = .running → s.frameQuiet → s.busQuiet →
      ∃ t, exec .frameStart s = .next t ∧ t.regs.device = .running ∧
        t.beam = ⟨true, 0, (s.beam.frame + 1) % 65536, [], false,
          if s.beam.isOpen then decide (s.beam.clock = 16777215) else s.beam.overLong⟩ ∧
        (∀ c, (t.chan c).strikes = 0 ∧ (t.chan c).results = [] ∧ (t.chan c).measured = false) ∧
        ((∀ i, (s.loader.loads.get i).waitingRevision = none) →
          ∀ c n, (s.chan c).echo = .scheduled n → (t.chan c).echo = .due n) ∧
        ∃ closed opened looked sampled : State,
          (s.beam.isOpen = false → closed = s) ∧
          (s.beam.isOpen = true → ∃ ended, exec .frameEnd s = .next ended ∧ closed = ended.settleAll) ∧
          opened = { closed with beam := t.beam, chans := opened.chans } ∧
          (∀ c, opened.chan c = { closed.chan c with
            strikes := 0, results := [], measured := false
            echo := match (closed.chan c).echo with | .scheduled n => .due n | .due n => .due n | .none => .none }) ∧
          (let inst := opened.install false
            let chosen := (inst.choose inst.claims.entries .a).choose inst.claims.entries .b
            looked = (((chosen.lookRunning .config).lookRunning .group).lookRunning .view).lookRunning .menu) ∧
          exec .attentionWrite looked = .next sampled ∧ t = sampled.drain) ∧
    (s.regs.device = .stopped ∨ s.regs.device = .halted → exec .frameStart s = .next s)

/-- VECTOR BEGIN (R11). In an OPEN frame the newest entry is ended, every pending strike resolved against the trail as it then
stands, a full trail gives up its oldest entry and the dropped flag is set, and a new unended entry is appended with its
coordinates clamped to 4095. Nothing else changes. In a CLOSED frame, and outside RUNNING (R1), it is ignored. -/
def Obligations.VectorBeginAppends : Prop :=
  ∀ (s : State) (v : VectorNote), s.frameQuiet →
    let ended := endNewest s.beam.clock s.beam.trail
    let u : State := { s with beam := { s.beam with trail := ended } }
    (s.regs.device = .running → s.beam.isOpen = true → ∃ t, exec (.vectorBegin v) s = .next t ∧
      t.beam = { s.beam with
        trail := (if 32 ≤ s.beam.trail.length then ended.drop 1 else ended) ++
          [⟨v.tag.toNat, v.group.toNat, v.index.toNat, ⟨min v.x0.toNat 4095, min v.y0.toNat 4095⟩,
            ⟨min v.x1.toNat 4095, min v.y1.toNat 4095⟩, s.beam.clock, none⟩]
        dropped := s.beam.dropped || decide (32 ≤ s.beam.trail.length) } ∧
      (s.beam.trail.length ≤ 32 → 1 ≤ t.beam.trail.length ∧ t.beam.trail.length ≤ 32) ∧
      (∀ c, t.chan c = { s.chan c with
        results := (s.chan c).results ++ (s.chan c).pendingStrikes.map fun k => ⟨u.resolve c k, k.echo⟩
        pendingStrikes := [] }) ∧
      t = { s with beam := t.beam, chans := t.chans }) ∧
    (s.regs.device ≠ .running ∨ s.beam.isOpen = false → exec (.vectorBegin v) s = .next s)

/-- VECTOR END (R13). With an entry being drawn in an OPEN frame, that entry is ended and every pending strike of both channels
is resolved against the trail as it then stands; the trail keeps its length and nothing else changes. With the newest entry
ended, with an empty trail, in a CLOSED frame, and outside RUNNING (R1), it is ignored. -/
def Obligations.VectorEndEndsNewest : Prop :=
  ∀ s : State, s.frameQuiet →
    (∀ (older : List Entry) (e : Entry), s.regs.device = .running → s.beam.isOpen = true → s.beam.trail = older ++ [e] → e.ended = none →
      let u : State := { s with beam := { s.beam with trail := older ++ [{ e with ended := some s.beam.clock }] } }
      ∃ t, exec .vectorEnd s = .next t ∧ t.beam = u.beam ∧
        (∀ c, t.chan c = { s.chan c with
          results := (s.chan c).results ++ (s.chan c).pendingStrikes.map fun k => ⟨u.resolve c k, k.echo⟩
          pendingStrikes := [] }) ∧
        t = { s with beam := t.beam, chans := t.chans }) ∧
    (∀ (older : List Entry) (e : Entry), s.beam.trail = older ++ [e] → e.ended ≠ none → exec .vectorEnd s = .next s) ∧
    (s.beam.trail = [] → exec .vectorEnd s = .next s) ∧
    (s.regs.device ≠ .running ∨ s.beam.isOpen = false → exec .vectorEnd s = .next s)

/-- FRAME END with a frame OPEN (R7, R8): the newest entry is ended, every pending strike resolved, the over-long flag decided,
the frame CLOSED, and a due echo lapses. The frame number, the frame clock, the Table Loader, the locks and the inputs stay. In
a CLOSED frame, and outside RUNNING (R1), it is ignored.
The frame end (R9) gives each channel its own work by its state, independently of the other channel's: nothing in OFF; in WATCH
the table update (R86) and, with buttons on sight, the pick of the best confirmed, permitted and unfired button (R96); in PRESSED
the press window's work (R92 to R94; MissEndsPressWindow); in CALIBRATING the budget lowered by 1, the end with 8 measurements
(CalibrationFinishes), or TOO FEW owed with the budget spent (R39); in TRACKING the work of R137 (CrossUpdateMoves); in SUSPENDED
the duration raised (R140); in GLARE the glare frame count and the reminder phase raised and a reminder owed where the phase
returns to 0 (R27). After it the confirm countdown of a button that was armed before and still is falls by 1, and at 0 its expiry
is owed (R114); the highlight is chosen anew with the claims of the close (R155); a pen's claim goes where its tracking ended with
the tip not held (R137, R138). The blink count k rises by 1 (stated where no armed button changes), and where it reaches the period
a period end is owed (R159). With nothing owed and nothing asked, the status section is written (R181). That what the table lists
as commands of their own (MISS, LOST, TOO FEW, GLARE REMINDER, CONFIRM EXPIRY, BLINK PERIOD END, ASK DECISION) stands owed is the
model's choice (log entry 4). -/
def Obligations.FrameEndClosesFrame : Prop :=
  ∀ s : State, s.frameQuiet → s.busQuiet →
    let ended := endNewest s.beam.clock s.beam.trail
    let u : State := { s with beam := { s.beam with trail := ended } }
    (s.regs.device ≠ .running ∨ s.beam.isOpen = false → exec .frameEnd s = .next s) ∧
    (s.regs.device = .running → s.beam.isOpen = true → ∃ t, exec .frameEnd s = .next t ∧ t.regs.device = .running ∧
      t.beam = { s.beam with trail := ended, overLong := decide (s.beam.clock = 16777215), isOpen := false } ∧
      (∀ c, (t.chan c).pendingStrikes = [] ∧
        (t.chan c).results = (s.chan c).results ++ (s.chan c).pendingStrikes.map (fun k => ⟨u.resolve c k, k.echo⟩) ∧
        (∀ n, (t.chan c).echo ≠ .due n) ∧ (t.chan c).strikes = (s.chan c).strikes) ∧
      t.loader = s.loader ∧ t.locks = s.locks ∧ t.inputs = s.inputs ∧ t.idle = s.idle ∧ t.requests = s.requests ∧
      (let atClose := s.closeTrail.countBlink
        let work : Chan → State := fun c =>
          let cc := s.chanConfig c
          match (s.chan c).mode with
          | .off => atClose
          | .watch =>
            let seen := atClose.onChan c fun x => { x with table := updateTable cc.m cc.k (sightingSet x.results) x.table }
            if cc.buttonsOnSight then
              match bestQual s.tables ((seen.eligible s.claims.entries c).filter fun q => q.group == menuGroup c && !q.fired) with
              | none => seen
              | some q => (seen.buttonPick c q.tag .sight (q.sightings.any Sighting.echo)).onChan c fun x =>
                { x with table := x.table.map fun y => if y.group = q.group ∧ y.tag = q.tag then { y with fired := true } else y }
            else seen
          | .pressed => atClose.pressedFrame c
          | .calibrating =>
            let spent := atClose.onChan c fun x => { x with budget := x.budget - 1 }
            if 8 ≤ (s.chan c).measures.length then atClose.calibrationFrame c
            else if (s.chan c).budget - 1 = 0 then spent.owe c (some .tooFew) else spent
          | .tracking => atClose.trackFrame c
          | .suspended => atClose.onChan c fun x => { x with duration := min (x.duration + 1) 65535 }
          | .glare =>
            let counted := atClose.onChan c fun x =>
              { x with glareFrames := min (x.glareFrames + 1) 65535, reminderPhase := (x.reminderPhase + 1) % 64 }
            if ((s.chan c).reminderPhase + 1) % 64 = 0 then counted.owe c (some .reminder) else counted
        (∀ c, t.chan c = (work c).chan c ∧ t.work.owed.get c = (work c).work.owed.get c ∧
          t.claims.asks.get c = (work c).claims.asks.get c ∧
          (let m := (work c).menu c
            let counts := m.armed ≠ none ∧ m.armed = (s.menu c).armed
            t.menu c = (if counts then { m with countdown := m.countdown - 1 } else m) ∧
              (t.work.expiry.get c = true ↔ counts ∧ m.countdown - 1 = 0)) ∧
          t.feedback.entry.get c = t.highlightEntry s.claims.entries c) ∧
        t.claims.entries = (s.claims.entries.filter fun k => [Chan.a, .b].all fun c =>
          !(k.holder == .pen c && (s.chan c).mode == .tracking && !s.tipHeld c)) ∧
        ((∀ c, (t.menu c).armed = (s.menu c).armed) → t.feedback.blink = s.feedback.blink.map fun k => k + 1) ∧
        (t.work.period = true ↔ ∃ k, s.feedback.blink = some k ∧ k + 1 = s.feedback.period) ∧
        (Memory.wf s.mem → t.frameQuiet → t.areaBytes 0x40 192 = statusImage t)))

/-- The frame clock saturates and holds its last value (R3); with no echo due nothing else changes. That the command runs the
clock there from any value is the model's choice (log entry 10). -/
def Obligations.FrameClockSaturates : Prop :=
  ∀ s : State, s.regs.device = .running → s.beam.isOpen = true → (∀ c n, (s.chan c).echo ≠ .due n) →
    exec .frameClockSaturation s = .next { s with beam := { s.beam with clock := 16777215 } }

/-! ### Strike lines -/

/-- A strike that R22 and R23 take in WATCH, PRESSED or TRACKING (R24, R48, R49, R50): BLANK when its compensated time is below
0, pending while an unended entry begun at or before its window end is in the trail, and resolved at once otherwise. The other
channel, and all but the Idle Monitor's timer, stays. -/
def Obligations.StrikeIsTaken : Prop :=
  ∀ (s : State) (c : Chan), s.regs.device = .running → s.beam.isOpen = true →
    ((s.chan c).mode = .watch ∨ (s.chan c).mode = .pressed ∨ (s.chan c).mode = .tracking) → s.idle.dim = false →
    (s.chan c).strikes < 4 →
    let d := (s.chan c).delay
    let ts := s.beam.clock
    let k : Strike := ⟨ts - d, min (ts - d + (s.chanConfig c).aperture) ts, false⟩
    let waits := ∃ e ∈ s.beam.trail, e.ended = none ∧ e.begun ≤ k.h
    ∃ t, exec (.strike c) s = .next t ∧
      t.chan c = { s.chan c with
        lineHigh := (s.chanConfig c).edge.activeHigh
        glareTimer := some 0
        strikes := (s.chan c).strikes + 1
        results := (t.chan c).results
        pendingStrikes := (t.chan c).pendingStrikes } ∧
      (ts < d → (t.chan c).results = (s.chan c).results ++ [⟨.blank, false⟩] ∧
        (t.chan c).pendingStrikes = (s.chan c).pendingStrikes) ∧
      (d ≤ ts → waits → (t.chan c).results = (s.chan c).results ∧
        (t.chan c).pendingStrikes = (s.chan c).pendingStrikes ++ [k]) ∧
      (d ≤ ts → ¬waits → (t.chan c).results = (s.chan c).results ++ [⟨s.resolve c k, false⟩] ∧
        (t.chan c).pendingStrikes = (s.chan c).pendingStrikes) ∧
      t.chan (otherChan c) = s.chan (otherChan c) ∧ t = { s with chans := t.chans, idle := ⟨false, 0⟩ }

/-- A strike taken in CALIBRATING (R37, R38): it is measured from the begin of the newest entry with the dot tag begun within
the 511 ticks before it, kept if it is the frame's first measurement, and leaves no result. -/
def Obligations.StrikeIsMeasured : Prop :=
  ∀ (s : State) (c : Chan) (dot : Nat), s.regs.device = .running → s.beam.isOpen = true →
    (s.chan c).mode = .calibrating → (s.chan c).dotTag = some dot → s.idle.dim = false → (s.chan c).strikes < 4 →
    let ts := s.beam.clock
    let isDot := fun e : Entry => e.tag = dot ∧ e.begun ≤ ts ∧ ts ≤ e.begun + 511
    ∃ t, exec (.strike c) s = .next t ∧
      t.chan c = { s.chan c with
        lineHigh := (s.chanConfig c).edge.activeHigh
        glareTimer := some 0
        strikes := (s.chan c).strikes + 1
        measures := (t.chan c).measures
        measured := (t.chan c).measured } ∧
      (∀ older e newer, s.beam.trail = older ++ e :: newer → isDot e → (∀ x ∈ newer, ¬isDot x) → (s.chan c).measured = false →
        (t.chan c).measures = (s.chan c).measures ++ [⟨ts - e.begun, false⟩] ∧ (t.chan c).measured = true) ∧
      ((∀ e ∈ s.beam.trail, ¬isDot e) ∨ (s.chan c).measured = true →
        (t.chan c).measures = (s.chan c).measures ∧ (t.chan c).measured = (s.chan c).measured) ∧
      t.chan (otherChan c) = s.chan (otherChan c) ∧ t = { s with chans := t.chans, idle := ⟨false, 0⟩ }

/-- A strike that is discarded (R22, R23): in a CLOSED frame, in GLARE or SUSPENDED, at the limit of four, or not passed by a
DIM Idle Monitor, it is not counted and leaves no result and no record; its edge still starts the glare timer outside GLARE. -/
def Obligations.StrikeIsDiscarded : Prop :=
  ∀ (s : State) (c : Chan), s.regs.device = .running → (s.chan c).mode ≠ .off →
    (s.beam.isOpen = false ∨ (s.chan c).mode = .glare ∨ (s.chan c).mode = .suspended ∨ 4 ≤ (s.chan c).strikes ∨
      (s.idle.dim = true ∧ s.config.strikeGate.report = false)) →
    ∃ t, exec (.strike c) s = .next t ∧
      t.chan c = { s.chan c with
        lineHigh := (s.chanConfig c).edge.activeHigh
        glareTimer := if (s.chan c).mode = .glare then (s.chan c).glareTimer else some 0 } ∧
      t.chan (otherChan c) = s.chan (otherChan c) ∧ t = { s with chans := t.chans, idle := t.idle } ∧
      t.idle = if s.idle.dim = true ∧ s.config.strikeGate.wake = false then s.idle else ⟨false, 0⟩

/-- The line leaving its active level (R25, R28). In GLARE it ends the glare: a GLARE END record with the two counts, and the
channel in WATCH with an empty qualification table and no pending strike. In another enabled state it stops the glare timer and
does nothing else. That the glare frame count, the reminder count and the reminder phase keep their values after the glare is
the model's choice (log entry 22). -/
def Obligations.LineLeavesActiveLevel : Prop :=
  ∀ (s : State) (c : Chan), s.regs.device = .running → s.frameQuiet → (s.chan c).mode ≠ .off →
    let high := !(s.chanConfig c).edge.activeHigh
    ((s.chan c).mode ≠ .glare →
      exec (.lineLeavesActiveLevel c) s = .next (s.setChan c { s.chan c with lineHigh := high, glareTimer := none })) ∧
    ((s.chan c).mode = .glare → s.busQuiet → s.logReady → Memory.wf s.mem →
      ∃ t, exec (.lineLeavesActiveLevel c) s = .next t ∧
        recorded s t ⟨.chan c, s.beam.frame, {}, .glareEnd (s.chan c).glareFrames (s.chan c).reminders⟩ ∧
        t.chan c = { s.chan c with lineHigh := high, glareTimer := none, mode := .watch, table := [], pendingStrikes := [] } ∧
        t.chan (otherChan c) = s.chan (otherChan c) ∧ t.beam = s.beam ∧ t.claims = s.claims ∧ t.menus = s.menus ∧
        sameExcept s t [s.slotRange])

/-- Glare onset (R26): strikes and qualification are discarded, tracking and its claim, a calibration, a press window and a
collection end, the echo lapses, and the channel is in GLARE with its counts at 0. Its strike count, its working delay, the
menus, the locks, the inputs and the other channel stay. From WATCH with no collection it creates one record, GLARE with
reminder count 0 and the current frame number; the records that R26 makes in its third and fourth step, from the other states
and with a collection, are left out here. The model's choices: the command brings the onset about for any running glare timer,
whether it exceeds the threshold or not (log entry 10), and on leaving PRESSED the press record is none and the window count 0
(log entry 22). The bits of a record that R169 does not list are 0 by the model's choice (log entry 32). -/
def Obligations.GlareOnsetEntersGlare : Prop :=
  ∀ (s : State) (c : Chan), s.regs.device = .running → s.frameQuiet → s.busQuiet → (s.chan c).mode ≠ .off →
    (s.chan c).mode ≠ .glare → (s.chan c).glareTimer ≠ none →
    ∃ t, exec (.glareOnset c) s = .next t ∧ (t.chan c).mode = .glare ∧ (t.chan c).pendingStrikes = [] ∧
      (t.chan c).results = [] ∧ (t.chan c).table = [] ∧ (t.chan c).echo = .none ∧ (t.chan c).collection = none ∧
      (t.chan c).glareTimer = none ∧ (t.chan c).glareFrames = 0 ∧ (t.chan c).reminders = 0 ∧ (t.chan c).reminderPhase = 0 ∧
      ((s.chan c).mode = .calibrating → (t.chan c).measures = []) ∧
      ((s.chan c).mode = .pressed → (t.chan c).press = none ∧ (t.chan c).windowCount = 0) ∧
      t.claims.entries = (if (s.chan c).mode = .tracking ∨ (s.chan c).mode = .suspended then
        s.claims.entries.filter fun k => k.holder != .pen c else s.claims.entries) ∧
      (t.chan c).strikes = (s.chan c).strikes ∧ (t.chan c).delay = (s.chan c).delay ∧ t.menus = s.menus ∧ t.locks = s.locks ∧
      t.inputs = s.inputs ∧ t.idle = s.idle ∧ t.beam = s.beam ∧ t.chan (otherChan c) = s.chan (otherChan c) ∧
      (s.logReady → Memory.wf s.mem → (s.chan c).mode = .watch → (s.chan c).collection = none →
        recorded s t ⟨.chan c, s.beam.frame, {}, .glare 0⟩ ∧ sameExcept s t [s.slotRange])

/-- The glare reminder of a 64th frame end (R27): the reminder count rises, to at most 65535, and a GLARE record carries it; the
channel is otherwise as it was. The bits of a record that R169 does not list are 0 by the model's choice (log entry 32). -/
def Obligations.GlareReminderRecord : Prop :=
  ∀ (s : State) (c : Chan), s.regs.device = .running → s.busQuiet → s.logReady → Memory.wf s.mem →
    (s.chan c).mode = .glare → s.work.owed.get c = some .reminder →
    ∃ t, exec (.glareReminder c) s = .next t ∧
      recorded s t ⟨.chan c, s.beam.frame, {}, .glare (min ((s.chan c).reminders + 1) 65535)⟩ ∧
      t.chan c = { s.chan c with reminders := min ((s.chan c).reminders + 1) 65535 } ∧ t.work.owed.get c = none ∧
      t.chan (otherChan c) = s.chan (otherChan c) ∧ t.beam = s.beam ∧ t.menus = s.menus ∧
      t.claims.entries = s.claims.entries ∧ sameExcept s t [s.slotRange, s.statusRange]

/-- A due echo is delivered at its time T as a strike with arrival time T, flagged ECHO, and is gone (R30, R31). In WATCH,
PRESSED or TRACKING in an OPEN frame, AWAKE and with fewer than four strikes taken, it is counted and handled as R24, R48, R49
and R50 give: BLANK when its compensated time is below 0, pending while an unended entry begun at or before its window end is in
the trail, and resolved at once otherwise. Neither the line nor the glare timer moves (R31). In GLARE or SUSPENDED, at the limit
of four, or not passed by a DIM Idle Monitor, it is discarded and gone. The model's choices: the command runs the frame clock to
T where it has not reached it, and where it stands later the strike still arrives at T (log entry 10); with no echo due, or in
no OPEN frame of RUNNING, the command has no effect (log entry 28). Left out: an echo measured in CALIBRATING, and the earlier
delivery of an echo that the other channel has due (log entry 10). -/
def Obligations.EchoIsDelivered : Prop :=
  ∀ (s : State) (c : Chan),
    (s.regs.device ≠ .running ∨ s.beam.isOpen = false ∨ (∀ n, (s.chan c).echo ≠ .due n) → exec (.echoDelivery c) s = .next s) ∧
    ∀ n : Nat, s.regs.device = .running → s.beam.isOpen = true → (s.chan c).echo = .due n →
      (∀ m, (s.chan (otherChan c)).echo ≠ .due m) →
      let d := (s.chan c).delay
      let k : Strike := ⟨n - d, min (n - d + (s.chanConfig c).aperture) n, true⟩
      let waits := ∃ e ∈ s.beam.trail, e.ended = none ∧ e.begun ≤ k.h
      let met := { s.beam with clock := max s.beam.clock n }
      (((s.chan c).mode = .watch ∨ (s.chan c).mode = .pressed ∨ (s.chan c).mode = .tracking) → s.idle.dim = false →
        (s.chan c).strikes < 4 →
        ∃ t, exec (.echoDelivery c) s = .next t ∧
          t.chan c = { s.chan c with
            echo := .none
            strikes := (s.chan c).strikes + 1
            results := (t.chan c).results
            pendingStrikes := (t.chan c).pendingStrikes } ∧
          (n < d → (t.chan c).results = (s.chan c).results ++ [⟨.blank, true⟩] ∧
            (t.chan c).pendingStrikes = (s.chan c).pendingStrikes) ∧
          (d ≤ n → waits → (t.chan c).results = (s.chan c).results ∧
            (t.chan c).pendingStrikes = (s.chan c).pendingStrikes ++ [k]) ∧
          (d ≤ n → ¬waits → (t.chan c).results = (s.chan c).results ++ [⟨s.resolve c k, true⟩] ∧
            (t.chan c).pendingStrikes = (s.chan c).pendingStrikes) ∧
          t.chan (otherChan c) = s.chan (otherChan c) ∧ t = { s with beam := met, chans := t.chans, idle := ⟨false, 0⟩ }) ∧
      ((s.chan c).mode ≠ .off → (s.chan c).mode = .glare ∨ (s.chan c).mode = .suspended ∨ 4 ≤ (s.chan c).strikes ∨
          (s.idle.dim = true ∧ s.config.strikeGate.report = false) →
        ∃ t, exec (.echoDelivery c) s = .next t ∧ t.chan c = { s.chan c with echo := .none } ∧
          t.chan (otherChan c) = s.chan (otherChan c) ∧ t = { s with beam := met, chans := t.chans, idle := t.idle } ∧
          t.idle = if s.idle.dim = true ∧ s.config.strikeGate.wake = false then s.idle else ⟨false, 0⟩)

/-! ### Resolving a strike -/

/-- The offset and the clamped time of an entry, and which entries are candidates (R54). -/
def Obligations.CandidatesByOffset : Prop :=
  ∀ (w : Nat) (k : Strike) (e : Entry) (f : Nat), e.ended = some f → e.begun ≤ f →
    (e.begun ≤ k.h → e.begun ≤ k.tc → k.tc < f → candidate w k e = some (e, f, 0, k.tc)) ∧
    (e.begun ≤ k.h → k.tc < e.begun →
      candidate w k e = if e.begun - k.tc ≤ w then some (e, f, e.begun - k.tc, e.begun) else none) ∧
    (e.begun ≤ k.h → f ≤ k.tc →  e.begun ≤ k.tc →
      candidate w k e = if k.tc - f + 1 ≤ w then some (e, f, k.tc - f + 1, f) else none) ∧
    (k.h < e.begun → candidate w k e = none)

/-- The verdict on a strike that completes (R53, R57, R58): TRAIL SHORT if and only if the dropped flag is set and the oldest
entry began after t_c − W; otherwise BLANK without a candidate, FORBIDDEN with every candidate refused, and RESOLVED on the
permitted candidate that comes first by the smaller offset, then the higher pick class, then the later begin, then the later
position. -/
def Obligations.StrikeVerdict : Prop :=
  ∀ (s : State) (c : Chan) (k : Strike),
    let w := (s.chanConfig c).aperture
    let near := s.beam.trail.filterMap (candidate w k)
    let may := fun x : Entry × Nat × Nat × Nat => s.permits s.claims.entries c x.1.group x.1.tag = true
    let class_ := fun x : Entry × Nat × Nat × Nat => s.tables.pickClass x.1.group
    let before := fun x y : Entry × Nat × Nat × Nat => x.2.2.1 < y.2.2.1 ∨ (x.2.2.1 = y.2.2.1 ∧ (class_ y < class_ x ∨
      (class_ y = class_ x ∧ y.1.begun < x.1.begun)))
    let tied := fun x y : Entry × Nat × Nat × Nat => x.2.2.1 = y.2.2.1 ∧ class_ x = class_ y ∧ x.1.begun = y.1.begun
    (s.resolve c k = .trailShort ↔
      s.beam.dropped = true ∧ ∃ e rest, s.beam.trail = e :: rest ∧ k.tc < e.begun + w) ∧
    (s.resolve c k ≠ .trailShort →
      (s.resolve c k = .blank ↔ near = []) ∧
      (s.resolve c k = .forbidden ↔ near ≠ [] ∧ ∀ x ∈ near, ¬may x) ∧
      ∀ h, s.resolve c k = .resolved h →
        ∃ pre x post, near = pre ++ x :: post ∧ may x ∧ h = hitOn x ∧
          (∀ y ∈ pre, may y → before x y ∨ tied x y) ∧ (∀ y ∈ post, may y → before x y))

/-- The display point of a result (R60): the start point of an entry of no length, and otherwise on each axis the start plus the
exact quotient rounded with halves away from zero, which lies between the two end points. The RESOLVED result on a winning entry
holds that point for the ticks from the entry's begin to the clamped time (R46, R59), with the entry's group, tag, vector index
and start point, the offset, and the vector position round(n × 4096 / d), 0 for an entry of no length, within 0 to 4096. -/
def Obligations.PointOnVector : Prop :=
  (∀ (e : Entry) (n d : Nat), n ≤ d →
    let p := alongVector e n d
    (d = 0 → p = e.start) ∧
    (0 < d → isRounded ((p.x : Int) - e.start.x) (n * ((e.finish.x : Int) - e.start.x)) d ∧
      isRounded ((p.y : Int) - e.start.y) (n * ((e.finish.y : Int) - e.start.y)) d) ∧
    min e.start.x e.finish.x ≤ p.x ∧ p.x ≤ max e.start.x e.finish.x ∧
    min e.start.y e.finish.y ≤ p.y ∧ p.y ≤ max e.start.y e.finish.y) ∧
  ∀ (e : Entry) (n d offset : Nat), n ≤ d →
    ∃ p, hitOn (e, e.begun + d, offset, e.begun + n) =
        { group := e.group, tag := e.tag, index := e.index, p := p, point := alongVector e n d, offset := offset, start := e.start } ∧
      (d = 0 → p = 0) ∧ (0 < d → isRounded p (n * 4096 : Nat) d ∧ p ≤ 4096)

/-- A loft point (R62): on each axis the exact quotient is rounded with halves away from zero, then the origin added, then the
sum saturated to ±2,000,000, each axis by itself. -/
def Obligations.LoftConversion : Prop :=
  ∀ (w : ViewEntry) (p : Point), w.sx ≠ 0 → w.sy ≠ 0 →
    ∃ qx qy : Int, isRounded qx (((p.x : Int) - w.dx) * w.sx) 256 ∧ isRounded qy (((p.y : Int) - w.dy) * w.sy) 256 ∧
      throughView w p = some ⟨max (-2000000) (min (w.ox + qx) 2000000), max (-2000000) (min (w.oy + qy) 2000000)⟩

/-- The Permission Unit's answer (R68, R71): a channel in TRACKING or SUSPENDED is permitted its own four arms in group 63 and
nothing else; any other channel is refused group 63, permitted the live buttons of its top sheet in its own menu group, and in a
drawing group permitted what is not refused by a MODAL top sheet, pick class 0, a lock, the guard span, or a claim of another
holder. -/
def Obligations.PermissionAnswers : Prop :=
  ∀ (s : State) (claims : List Claim) (c : Chan) (g tag : Nat), g ≤ 63 → tag ≤ 65535 →
    let tracks := (s.chan c).mode = .tracking ∨ (s.chan c).mode = .suspended
    (tracks → (s.permits claims c g tag = true ↔ g = 63 ∧ armBase c ≤ tag ∧ tag ≤ armBase c + 3)) ∧
    (¬tracks → g = 63 → s.permits claims c g tag = false) ∧
    (¬tracks → g = 61 ∨ g = 62 →
      (s.permits claims c g tag = true ↔
        (g = match c with | .a => 62 | .b => 61) ∧ ∃ b ∈ (s.topSheet c).buttons, b.tag = tag ∧ b.inert = false)) ∧
    (¬tracks → g ≤ 60 →
      (s.permits claims c g tag = true ↔
        (s.topSheet c).modal = false ∧ s.tables.pickClass g ≠ 0 ∧ s.locked c g = false ∧
          (match (s.chanConfig c).guardDir with
            | .none => True
            | .upper => tag < 65536 - 2 ^ (s.chanConfig c).guardExp
            | .lower => 2 ^ (s.chanConfig c).guardExp ≤ tag
            | .all => False) ∧
          ∀ k ∈ claims, k.tag = tag → k.holder = .pen c))

/-! ### Steps of a frame end -/

/-- A press window. The end of one that found nothing (R94, R100): a MISS record with the window stage as its reason, and the
channel in WATCH with no press record; its qualification table stays. That the window's stage, results, echo and frames then
return to their reset values is the model's choice (log entry 22). Before that, at each frame end in PRESSED the table is
updated (R86; stated where the entries kept and the new ones are four at most, so that none is evicted), and the best of the
eligible entries, in the order of R88, forms a pick (R93); one of a button goes to the Menu Engine, and once that has made its
record the entry's fired flag is set and the channel is in WATCH (R98, R110); with none eligible the window count falls by 1,
and at 0 the window ends with the MISS (R94). That the MISS there stands owed, to be taken as a command of its own, is the
model's choice (log entry 4). The counting of the window's results and stage at that frame end (R92, `Channel.countWindow`) and
the sighting set that the update is given (R83, `sightingSet`) are named and not spelled out, and the eviction (R87) is left
out. A pick holds the means of its entry's sightings, rounded, and the index and p of the latest (R97). The bits of a record
that R169 does not list are 0 by the model's choice (log entry 32). -/
def Obligations.MissEndsPressWindow : Prop :=
  (∀ (s : State) (c : Chan) (p : Press), s.regs.device = .running → s.busQuiet → s.logReady → Memory.wf s.mem →
    (s.chan c).mode = .pressed → (s.chan c).press = some p → s.work.owed.get c = some .miss →
    ∃ t, exec (.miss c) s = .next t ∧
      recorded s t ⟨.chan c, s.beam.frame, { echo := (s.chan c).windowEcho },
        .miss (.stage (s.chan c).stage) (s.chan c).stage p.role (s.chan c).windowFrames (s.chan c).windowResults none⟩ ∧
      t.chan c = { s.chan c with
        mode := .watch, windowCount := 0, windowFrames := 0, press := none, stage := .noStrike, windowResults := 0,
        windowEcho := false } ∧
      t.work.owed.get c = none ∧ t.chan (otherChan c) = s.chan (otherChan c) ∧ t.beam = s.beam ∧ t.menus = s.menus ∧
      t.claims.entries = s.claims.entries ∧ sameExcept s t [s.slotRange, s.statusRange]) ∧
  (∀ (m k : Nat) (set : List Seen) (table : List Qual),
    let grown := table.map fun q =>
      let h := q.history ++ [(set.find? fun x => x.group = q.group ∧ x.tag = q.tag).map Seen.sighting]
      { q with history := h.drop (h.length - m) }
    let kept := grown.filter fun q => q.history.any Option.isSome
    let fresh := set.filter fun x => ∀ q ∈ kept, ¬(q.group = x.group ∧ q.tag = x.tag)
    kept.length + fresh.length ≤ 4 →
      updateTable m k set table = kept ++ fresh.map fun x => ⟨x.group, x.tag, [some x.sighting], false⟩) ∧
  (∀ (q : Qual) (trig : Trigger) (older : List Sighting) (last : Sighting), q.sightings = older ++ [last] →
    let p := q.toPick trig
    p.group = q.group ∧ p.tag = q.tag ∧ p.index = last.index ∧ p.p = last.p ∧ p.sightings = q.sightings.length ∧
      p.trigger = trig ∧ (p.echo = true ↔ ∃ x ∈ q.sightings, x.echo = true) ∧
      isRounded p.point.x (q.sightings.map fun x => x.point.x).sum q.sightings.length ∧
      isRounded p.point.y (q.sightings.map fun x => x.point.y).sum q.sightings.length) ∧
  ∀ (s : State) (c : Chan) (p : Press), (s.chan c).press = some p →
    let t := (s.onChan c Channel.countWindow).updateQual c
    let eligible := t.eligible t.closeClaims c
    let first := fun q y : Qual => t.tables.pickClass y.group < t.tables.pickClass q.group ∨
      (t.tables.pickClass y.group = t.tables.pickClass q.group ∧ (y.sightings.length < q.sightings.length ∨
        (y.sightings.length = q.sightings.length ∧ q.latestOffset < y.latestOffset)))
    let tied := fun q y : Qual => t.tables.pickClass y.group = t.tables.pickClass q.group ∧
      y.sightings.length = q.sightings.length ∧ q.latestOffset = y.latestOffset
    (eligible = [] → s.pressedFrame c = (let u := t.onChan c fun x => { x with windowCount := (s.chan c).windowCount - 1 }
      if (s.chan c).windowCount - 1 = 0 then u.owe c (some .miss) else u)) ∧
    (eligible ≠ [] → ∃ pre q post, eligible = pre ++ q :: post ∧ (∀ y ∈ pre, first q y ∨ tied q y) ∧ (∀ y ∈ post, first q y) ∧
      let k := q.toPick (match p.role with | .tip => .tip | .foot => .foot)
      let fired := fun x : Qual => if x.group = k.group ∧ x.tag = k.tag then { x with fired := true } else x
      s.pressedFrame c = if k.group = 61 ∨ k.group = 62 then
        ((t.buttonPick c k.tag k.trigger k.echo).andThen fun u => u.onChan c fun x => { x with table := x.table.map fired }).andThen
          fun u => u.onChan c fun x => x.leavePressed.goto .watch
        else t.pickElement c k)

/-- Tracking lost (R137, R138): a TRACK END record with reason LOST, the channel in WATCH, its claim removed and its tracking
state cleared but for the centre. The bits of a record that R169 does not list are 0 by the model's choice (log entry 32). -/
def Obligations.LostEndsTracking : Prop :=
  ∀ (s : State) (c : Chan) (g tag : Nat), s.regs.device = .running → s.busQuiet → s.logReady → Memory.wf s.mem →
    (s.chan c).mode = .tracking → (s.chan c).tracked = some (g, tag) → s.work.owed.get c = some .lost →
    ∃ t, exec (.lost c) s = .next t ∧
      recorded s t ⟨.chan c, s.beam.frame, { echo := (s.chan c).echoInCentre },
        .trackEnd g tag (s.chan c).centre (loftPoint s.tables g (s.chan c).centre) .lost (s.chan c).duration⟩ ∧
      t.chan c = { s.chan c with mode := .watch, tracked := none, loss := 0, duration := 0, echoInCentre := false } ∧
      t.claims.entries = s.claims.entries.filter (fun k => k.holder != .pen c) ∧ t.work.owed.get c = none ∧
      t.chan (otherChan c) = s.chan (otherChan c) ∧ t.beam = s.beam ∧ t.menus = s.menus ∧
      sameExcept s t [s.slotRange, s.statusRange]

/-- A calibration that ends with TOO FEW (R41): its record holds the count and, where the list holds a measurement, the least
and the greatest of them; D keeps its value, the list is emptied and the channel goes to WATCH. That the dot tag, "measured this
frame" and the frame budget then return to their reset values is the model's choice (log entry 22). -/
def Obligations.TooFewEndsCalibration : Prop :=
  ∀ (s : State) (c : Chan) (dot : Nat), s.regs.device = .running → s.busQuiet → s.logReady → Memory.wf s.mem →
    (s.chan c).mode = .calibrating → (s.chan c).dotTag = some dot → (s.chan c).measures.length < 8 → (s.chan c).budget = 0 →
    s.work.owed.get c = some .tooFew →
    ∃ t lo hi, exec (.tooFew c) s = .next t ∧
      recorded s t ⟨.chan c, s.beam.frame, { echo := (s.chan c).measures.any Measure.echo },
        .calibration .tooFew dot (s.chan c).measures.length lo hi none (s.chan c).delay 32⟩ ∧
      ((s.chan c).measures = [] → lo = none ∧ hi = none) ∧
      ((s.chan c).measures ≠ [] → ∃ a b, lo = some a ∧ hi = some b ∧ a ∈ (s.chan c).measures.map Measure.ticks ∧
        b ∈ (s.chan c).measures.map Measure.ticks ∧ ∀ m ∈ (s.chan c).measures, a ≤ m.ticks ∧ m.ticks ≤ b) ∧
      t.chan c = { s.chan c with
        mode := .watch, dotTag := none, measures := [], measured := false, budget := 0, lastCal := some (.tooFew, 0) } ∧
      t.work.owed.get c = none ∧ t.chan (otherChan c) = s.chan (otherChan c) ∧ t.beam = s.beam ∧
      t.claims.entries = s.claims.entries ∧ sameExcept s t [s.slotRange, s.statusRange]

/-- The eight measurements of a calibration that finishes (R40): SET with the rounded mean of the two middle values where they
spread by 64 or less, and UNSTEADY with D unchanged otherwise; either way the channel goes to WATCH with an empty list. -/
def Obligations.CalibrationFinishes : Prop :=
  ∀ (s : State) (c : Chan) (v : List Nat), s.regs.device = .running → s.busQuiet → (s.chan c).measures.length = 8 →
    v.Pairwise (· ≤ ·) → v.Perm ((s.chan c).measures.map Measure.ticks) →
    let t := s.calibrationFrame c
    ∃ middle : Nat, isRounded middle ((v.getD 3 0 + v.getD 4 0 : Nat) : Int) 2 ∧
      (t.chan c).mode = .watch ∧ (t.chan c).measures = [] ∧
      (v.getD 7 0 - v.getD 0 0 ≤ 64 → (t.chan c).delay = middle ∧ (t.chan c).lastCal = some (.set, middle)) ∧
      (64 < v.getD 7 0 - v.getD 0 0 → (t.chan c).delay = (s.chan c).delay ∧ (t.chan c).lastCal = some (.unsteady, middle)) ∧
      t.chan (otherChan c) = s.chan (otherChan c)

/-- A confirm countdown that has reached 0 (R114, R115): the button is disarmed with a DISARMED record, cause EXPIRED; stack,
toggle states and selections stay. And how a button comes to be armed and performed: the Menu Engine's taking of a button pick
by the live button of the channel's top sheet (R110). Another armed button is first disarmed with cause PICK; a CONFIRM button
not armed becomes armed, its countdown at the confirm timeout (R113); the armed button itself, disarmed without a record, and
any other button perform their kind (R111). One MENU record is made for the button. The bits of a record that R169 does not list
are 0 by the model's choice (log entry 32). -/
def Obligations.ConfirmExpiryDisarms : Prop :=
  (∀ (s : State) (c : Chan) (sheet i : Nat), s.regs.device = .running → s.busQuiet → s.logReady → Memory.wf s.mem →
    s.work.owed.get c = none → s.work.expiry.get c = true → (s.menu c).armed = some (sheet, i) →
    ∃ t, exec (.confirmExpiry c) s = .next t ∧
      recorded s t ⟨.chan c, s.beam.frame, {}, s.menuBody c .disarmed sheet i none (some .expired)⟩ ∧
      t.menu c = { s.menu c with armed := none, countdown := 0 } ∧ t.menu (otherChan c) = s.menu (otherChan c) ∧
      ((s.menu (otherChan c)).armed = none → t.feedback.blink = none) ∧
      ((s.menu (otherChan c)).armed ≠ none → s.feedback.blink ≠ none → t.feedback.blink = s.feedback.blink) ∧
      t.work.expiry.get c = false ∧ t.chans = s.chans ∧ t.beam = s.beam ∧ sameExcept s t [s.slotRange, s.statusRange]) ∧
  ∀ (s : State) (c : Chan) (tag : Nat) (trig : Trigger) (echo : Bool),
    let t := s.buttonPick c tag trig echo
    let m := s.menu c
    ((∀ b ∈ (s.topSheet c).buttons, b.tag = tag → b.inert = true) → t = s) ∧
    ∀ (before after : List Button) (b : Button), (s.topSheet c).buttons = before ++ b :: after → b.tag = tag → b.inert = false →
      (∀ x ∈ before, x.tag = tag → x.inert = true) → s.regs.device = .running → s.busQuiet → s.logReady → Memory.wf s.mem →
      let i := before.length
      let menu := fun (o : MenuOutcome) => recorded s t ⟨.chan c, s.beam.frame, { echo := echo },
        t.menuBody c o m.top i (some trig) none⟩
      (∀ sheet j, m.armed = some (sheet, j) → (sheet, j) ≠ (m.top, i) →
        let u := s.disarm c .pick
        recorded s u ⟨.chan c, s.beam.frame, {}, s.menuBody c .disarmed sheet j none (some .pick)⟩ ∧
          u.menu c = { m with armed := none, countdown := 0 } ∧ t = u.buttonPick c tag trig echo) ∧
      (m.armed = none → b.confirm = true →
        menu .armed ∧ t.menu c = { m with armed := some (m.top, i), countdown := s.config.confirmTimeout } ∧
          t.feedback.blink = some (s.feedback.blink.getD 0)) ∧
      (m.armed = some (m.top, i) ∨ (m.armed = none ∧ b.confirm = false) →
        let n : Menu := if m.armed = none then m else { m with armed := none, countdown := 0 }
        match b.kind with
        | none => menu .fired ∧ t.menu c = n
        | some .command => menu .fired ∧ t.menu c = n
        | some .openSheet =>
          (m.stack.length < 4 → menu .fired ∧ t.menu c = { n with stack := m.stack ++ [b.target] }) ∧
            (4 ≤ m.stack.length → menu .depth ∧ t.menu c = n)
        | some .back =>
          (2 ≤ m.stack.length → menu .fired ∧ t.menu c = { n with stack := m.stack.dropLast }) ∧
            (m.stack.length < 2 → menu .atHome ∧ t.menu c = n)
        | some .toggle => menu .fired ∧ ∃ toggles, t.menu c = { n with toggles := toggles } ∧
            toggles.length = m.toggles.length ∧ ∀ sheet j,
              (toggles.getD sheet []).getD j false =
                if sheet = m.top ∧ j = i ∧ j < (m.toggles.getD sheet []).length then !((m.toggles.getD sheet []).getD j false)
                else (m.toggles.getD sheet []).getD j false
        | some .choice => menu .fired ∧ t.menu c = { n with choices := m.choices.set m.top (some i) })

/-- The end of a blink period (R159, R160): k returns to 0 and pending values are adopted. And what the Feedback Unit presents. A
channel's highlight is the first of four cases (R154): the armed button's menu group and tag, BLINK-ON while k is below the on-count
(R159) and OFF otherwise; in TRACKING the tracked element, STEADY; in WATCH and PRESSED the highlight entry, STEADY; otherwise group
0, tag 0, OFF. The highlight entry, each time it is chosen, is the best of the confirmed and permitted entries of the table in the
order of R88, and none without one and in every other state (R155); choosing changes nothing else. The cross is on exactly in
TRACKING, with the channel's centre and the L in use, and the shown sheet is the top of the channel's stack (R156). -/
def Obligations.BlinkPeriodRestarts : Prop :=
  (∀ s : State, s.regs.device = .running → s.busQuiet → s.work.period = true → s.feedback.blink = some s.feedback.period →
    ∃ t, exec .blinkPeriodEnd s = .next t ∧ t.feedback.blink = some 0 ∧ t.feedback.waiting = none ∧
      (t.feedback.period, t.feedback.onCount) = s.feedback.waiting.getD (s.feedback.period, s.feedback.onCount) ∧
      t.feedback.entry = s.feedback.entry ∧ t.work.period = false ∧ t.chans = s.chans ∧ t.menus = s.menus ∧
      t.beam = s.beam ∧ t.log = s.log ∧ sameExcept s t [s.statusRange]) ∧
  (∀ (s : State) (c : Chan),
    let ownGroup := match c with | .a => 62 | .b => 61
    let on := ∃ k, s.feedback.blink = some k ∧ k < s.feedback.onCount
    let watches := (s.chan c).mode = .watch ∨ (s.chan c).mode = .pressed
    (∀ (sheet i : Nat) (sh : Sheet) (b : Button), (s.menu c).armed = some (sheet, i) → s.tables.sheets[sheet]? = some sh →
      sh.buttons[i]? = some b →
      (on → s.highlight c = ⟨ownGroup, b.tag, .blinkOn⟩) ∧ (¬on → s.highlight c = ⟨ownGroup, b.tag, .off⟩)) ∧
    ((s.menu c).armed = none →
      (∀ g tag, (s.chan c).mode = .tracking → (s.chan c).tracked = some (g, tag) → s.highlight c = ⟨g, tag, .steady⟩) ∧
      (∀ g tag, watches → s.feedback.entry.get c = some (g, tag) → s.highlight c = ⟨g, tag, .steady⟩) ∧
      (watches → s.feedback.entry.get c = none → s.highlight c = ⟨0, 0, .off⟩) ∧
      ((s.chan c).mode ≠ .tracking → ¬watches → s.highlight c = ⟨0, 0, .off⟩)) ∧
    s.cross c = ⟨decide ((s.chan c).mode = .tracking), (s.chan c).centre, (s.chanConfig c).armLength⟩ ∧
    ∀ lower top, (s.menu c).stack = lower ++ [top] → s.shownSheet c = top) ∧
  ∀ (s : State) (claims : List Claim) (c : Chan),
    let t := s.choose claims c
    let entry := t.feedback.entry.get c
    let eligible := (s.chan c).table.filter fun q =>
      decide ((s.chanConfig c).k ≤ (q.history.filter Option.isSome).length) && s.permits claims c q.group q.tag
    let first := fun q y : Qual => s.tables.pickClass y.group < s.tables.pickClass q.group ∨
      (s.tables.pickClass y.group = s.tables.pickClass q.group ∧ (y.sightings.length < q.sightings.length ∨
        (y.sightings.length = q.sightings.length ∧ q.latestOffset < y.latestOffset)))
    let tied := fun q y : Qual => s.tables.pickClass y.group = s.tables.pickClass q.group ∧
      y.sightings.length = q.sightings.length ∧ q.latestOffset = y.latestOffset
    let watches := (s.chan c).mode = .watch ∨ (s.chan c).mode = .pressed
    (¬watches ∨ eligible = [] → entry = none) ∧
      (watches → eligible ≠ [] → ∃ pre q post, eligible = pre ++ q :: post ∧ (∀ y ∈ pre, first q y ∨ tied q y) ∧
        (∀ y ∈ post, first q y) ∧ entry = some (q.group, q.tag)) ∧
      t.feedback.entry.get (otherChan c) = s.feedback.entry.get (otherChan c) ∧
      t = { s with feedback := { s.feedback with entry := t.feedback.entry } }

/-- A lone ask for a free tag is GRANTED (R129, R130): a PICK record with tracking started, the claim at the end of the Claim
Table, and the channel TRACKING the picked element from the pick's point with an empty qualification table. With a collection
active the PICK has its place in it, and one that completes it is followed by a SEQUENCE END record with outcome COMPLETE
(R102). The bits of a record that R169 does not list are 0 by the model's choice (log entry 32). That the press record is none
from then on is the model's choice (log entry 22). -/
def Obligations.LoneAskIsGranted : Prop :=
  ∀ (s : State) (c : Chan) (k : Ask), s.regs.device = .running → s.busQuiet → s.logReady → Memory.wf s.mem →
    s.claims.asks.get c = some k → s.claims.asks.get (otherChan c) = none → (∀ e ∈ s.claims.entries, e.tag ≠ k.pick.tag) →
    s.claims.entries.length < 8 → s.collectionOpen c →
    ∃ t, exec .askDecision s = .next t ∧
      t.claims.entries = s.claims.entries ++ [⟨k.pick.tag, .pen c⟩] ∧ t.claims.asks = ⟨none, none⟩ ∧
      (t.chan c).mode = .tracking ∧ (t.chan c).tracked = some (k.pick.group, k.pick.tag) ∧
      (t.chan c).centre = k.pick.point ∧ (t.chan c).loss = 0 ∧ (t.chan c).duration = 0 ∧
      (t.chan c).echoInCentre = k.pick.echo ∧ (t.chan c).table = [] ∧ (t.chan c).press = none ∧
      pickRecorded s t c k.pick {} true ∧
      t.chan (otherChan c) = s.chan (otherChan c) ∧ t.beam = s.beam ∧ t.menus = s.menus ∧
      sameExcept s t (s.statusRange :: s.pickRanges c k.pick.tag)

/-- A lone ask that is not granted (R129, R131): it leaves the Claim Table as it is and the channel in WATCH with its
qualification table; a full table gives a PICK with NO TRACK, a held tag a PICK with CONTESTED or, with REFUSE, a MISS, which
the channel's collection does not see. A PICK has its place in an active collection (R102). And an element pick as it is formed
(R98, R115, R128): the channel's armed button is disarmed first, with a DISARMED record of cause PICK; then a pick of a
draggable group with the tip held asks for its tag, and any other gives its PICK record without notes and puts the channel in
WATCH. That the press record and the window's fields then return to their reset values is the model's choice (log entry 22).
The bits of a record that R169 does not list are 0 by the model's choice (log entry 32). -/
def Obligations.LoneAskIsRefused : Prop :=
  (∀ (s : State) (c : Chan) (k : Pick) (p : Press), s.regs.device = .running → s.busQuiet → s.logReady → Memory.wf s.mem →
    (s.chan c).press = some p →
    let drags := k.group ≤ 60 ∧ (∃ e, s.tables.groups[k.group]? = some e ∧ e.draggable = true) ∧ s.tipHeld c = true
    let t := s.pickElement c k
    (∀ sheet i, (s.menu c).armed = some (sheet, i) →
      let u := s.disarm c .pick
      recorded s u ⟨.chan c, s.beam.frame, {}, s.menuBody c .disarmed sheet i none (some .pick)⟩ ∧
        u.menu c = { s.menu c with armed := none, countdown := 0 } ∧ u.chans = s.chans ∧ t = u.pickElement c k) ∧
    ((s.menu c).armed = none → drags → t = s.setAsk c (some ⟨k, p⟩)) ∧
    ((s.menu c).armed = none → ¬drags → s.collectionOpen c →
      pickRecorded s t c k {} false ∧
      t.chan c = { s.chan c with
        mode := .watch, windowCount := 0, windowFrames := 0, press := none, stage := .noStrike, windowResults := 0,
        windowEcho := false, collection := (t.chan c).collection } ∧
      t.chan (otherChan c) = s.chan (otherChan c) ∧ t.claims = s.claims ∧ t.menus = s.menus ∧
      sameExcept s t (s.pickRanges c k.tag))) ∧
  ∀ (s : State) (c : Chan) (k : Ask), s.regs.device = .running → s.busQuiet → s.logReady → Memory.wf s.mem →
    s.claims.asks.get c = some k → s.claims.asks.get (otherChan c) = none → s.collectionOpen c →
    (s.chan c).press = some k.press →
    let held := ∃ e ∈ s.claims.entries, e.tag = k.pick.tag
    held ∨ 8 ≤ s.claims.entries.length →
    ∃ t, exec .askDecision s = .next t ∧ t.claims.entries = s.claims.entries ∧ t.claims.asks = ⟨none, none⟩ ∧
      (t.chan c).mode = .watch ∧ (t.chan c).table = (s.chan c).table ∧ (t.chan c).press = none ∧
      (¬held → pickRecorded s t c k.pick { noTrack := true } false) ∧
      (held → (s.chanConfig c).contest = .pickOnly → pickRecorded s t c k.pick { contested := true } false) ∧
      (held → (s.chanConfig c).contest = .refuse →
        recorded s t ⟨.chan c, s.beam.frame, { echo := (s.chan c).windowEcho || k.pick.echo },
          .miss .contested (s.chan c).stage k.press.role (s.chan c).windowFrames (s.chan c).windowResults
            (some (k.pick.group, k.pick.tag))⟩ ∧ (t.chan c).collection = (s.chan c).collection) ∧
      t.chan (otherChan c) = s.chan (otherChan c) ∧ t.beam = s.beam ∧
      sameExcept s t (s.statusRange :: s.pickRanges c k.pick.tag)

/-- Two asks for one free tag (R129): the earlier press wins it, the frame further back first, then the smaller frame clock,
then channel A; the winner tracks and the loser goes to WATCH. -/
def Obligations.EarlierPressWins : Prop :=
  ∀ (s : State) (ka kb : Ask), s.regs.device = .running → s.busQuiet → s.claims.asks = ⟨some ka, some kb⟩ →
    ka.pick.tag = kb.pick.tag → (∀ e ∈ s.claims.entries, e.tag ≠ ka.pick.tag) → s.claims.entries.length < 8 →
    s.beam.frame < 65536 → ka.press.frame < 65536 → kb.press.frame < 65536 →
    let back := fun p : Press => (s.beam.frame + 65536 - p.frame) % 65536
    ∃ t, exec .askDecision s = .next t ∧ t.claims.asks = ⟨none, none⟩ ∧
      (back kb.press < back ka.press ∨ (back ka.press = back kb.press ∧ ka.press.clock ≤ kb.press.clock) →
        t.claims.entries = s.claims.entries ++ [⟨ka.pick.tag, .pen .a⟩] ∧ (t.chan .a).mode = .tracking ∧
          (t.chan .b).mode = .watch) ∧
      (back ka.press < back kb.press ∨ (back ka.press = back kb.press ∧ kb.press.clock < ka.press.clock) →
        t.claims.entries = s.claims.entries ++ [⟨ka.pick.tag, .pen .b⟩] ∧ (t.chan .b).mode = .tracking ∧
          (t.chan .a).mode = .watch)

/-- The cross update (R134, R135): an arm's strike is the first RESOLVED result of the frame in group 63 with that arm's tag,
and an arm is struck exactly where there is one; each axis moves by the displacement of its one struck arm, or by the rounded
mean of two from the east or north arm's start, and the centre is clamped to 0 to 4095. The update tells how many arms were
struck, whether one of their strikes carried ECHO, and whether the clamping changed a coordinate.
And the frame end in TRACKING (R135 to R138): the duration rises by 1, to at most 65535; the centre becomes the update's, with a
TRACK record where that moves it, which carries EDGE where the clamping changed a coordinate and ECHO where an arm strike did, and
without a record, "echo in centre" staying, where it does not; the loss count is 0 with an arm struck and rises by 1 without. With
the tip held the tracking goes on, and at the loss limit LOST is owed; with the tip not held the tracking ends with a TRACK END
record, reason DROPPED, after any TRACK record. That LOST stands owed as a command of its own is the model's choice (log entry
4). The bits of a record that R169 does not list are 0 by the model's choice (log entry 32). -/
def Obligations.CrossUpdateMoves : Prop :=
  (∀ (s : State) (c : Chan) (g tag : Nat), s.regs.device = .running → s.busQuiet → s.logReady → Memory.wf s.mem →
    (s.chan c).mode = .tracking → (s.chan c).tracked = some (g, tag) → s.work.owed.get c = none →
    let x := s.chan c
    let u := crossUpdate c x.centre x.results
    let moved := u.1 ≠ x.centre
    let t := s.trackFrame c
    let track : Record := ⟨.chan c, s.beam.frame, { edge := u.2.1, echo := u.2.2.2 },
      .track g tag u.1 (loftPoint s.tables g u.1) u.2.2.1⟩
    let dropped : Record := ⟨.chan c, s.beam.frame, {},
      .trackEnd g tag u.1 (loftPoint s.tables g u.1) .dropped (min (x.duration + 1) 65535)⟩
    let y : Channel := { x with
      centre := u.1
      echoInCentre := if moved then u.2.2.2 else x.echoInCentre
      duration := min (x.duration + 1) 65535
      loss := if 0 < u.2.2.1 then 0 else x.loss + 1 }
    (s.tipHeld c = true →
      t.chan c = y ∧ t.claims = s.claims ∧
        t.work.owed.get c = (if (s.chanConfig c).lossLimit ≤ y.loss then some .lost else none) ∧
        (moved → recorded s t track ∧ sameExcept s t [s.slotRange]) ∧ (¬moved → unrecorded s t ∧ t.mem = s.mem)) ∧
    (s.tipHeld c = false →
      t.chan c = { y with mode := .watch, tracked := none, loss := 0, duration := 0, echoInCentre := false } ∧
        t.claims = { s.claims with entries := s.claims.entries.filter fun k => k.holder != .pen c } ∧
        t.work.owed.get c = none ∧
        (moved → recordedBoth s t track dropped ∧ sameExcept s t [s.slotRange, s.secondRange]) ∧
        (¬moved → recorded s t dropped ∧ sameExcept s t [s.slotRange])) ∧
    t.chan (otherChan c) = s.chan (otherChan c) ∧ t.menus = s.menus ∧ t.beam = s.beam) ∧
  ∀ (c : Chan) (centre : Point) (rs : List StrikeResult),
    let arm := fun i => armStrike rs c i
    let u := crossUpdate c centre rs
    let onArm := fun (i : Nat) (x : StrikeResult) => ∃ h, x.verdict = .resolved h ∧ h.group = 63 ∧ h.tag = armBase c + i
    (∀ i, arm i = none ↔ ∀ x ∈ rs, ¬onArm i x) ∧
    (∀ i h, arm i = some h → h.1.group = 63 ∧ h.1.tag = armBase c + i ∧
      ∃ pre post, rs = pre ++ ⟨.resolved h.1, h.2⟩ :: post ∧ ∀ x ∈ pre, ¬onArm i x) ∧
    u.2.2.1 = ([0, 1, 2, 3].filter fun i => (arm i).isSome).length ∧
    (u.2.2.2 = true ↔ ∃ i h, i < 4 ∧ arm i = some h ∧ h.2 = true) ∧
    (arm 0 = none → arm 2 = none → centre.x ≤ 4095 → u.1.x = centre.x) ∧
    (∀ e, arm 0 = some e → arm 2 = none → u.1.x = min e.1.point.x 4095) ∧
    (∀ w, arm 0 = none → arm 2 = some w → u.1.x = min w.1.point.x 4095) ∧
    (∀ e w, arm 0 = some e → arm 2 = some w →
      ∃ q, isRounded q (((e.1.point.x : Int) - e.1.start.x) + ((w.1.point.x : Int) - w.1.start.x)) 2 ∧
        (u.1.x : Int) = max 0 (min 4095 (e.1.start.x + q))) ∧
    (arm 1 = none → arm 3 = none → centre.y ≤ 4095 → u.1.y = centre.y) ∧
    (∀ n, arm 1 = some n → arm 3 = none → u.1.y = min n.1.point.y 4095) ∧
    (∀ so, arm 1 = none → arm 3 = some so → u.1.y = min so.1.point.y 4095) ∧
    (∀ n so, arm 1 = some n → arm 3 = some so →
      ∃ q, isRounded q (((n.1.point.y : Int) - n.1.start.y) + ((so.1.point.y : Int) - so.1.start.y)) 2 ∧
        (u.1.y : Int) = max 0 (min 4095 (n.1.start.y + q))) ∧
    u.1.x ≤ 4095 ∧ u.1.y ≤ 4095 ∧
    (let exactly := fun (old : Nat) (one two : Option (Nat × Nat)) (v : Int) =>
        match one, two with
        | none, none => v = old
        | some p, none => v = p.2
        | none, some p => v = p.2
        | some p, some r => ∃ q, isRounded q (((p.2 : Int) - p.1) + ((r.2 : Int) - r.1)) 2 ∧ v = p.1 + q
      let onX := fun i => (arm i).map fun h => (h.1.start.x, h.1.point.x)
      let onY := fun i => (arm i).map fun h => (h.1.start.y, h.1.point.y)
      ∃ vx vy : Int, exactly centre.x (onX 0) (onX 2) vx ∧ exactly centre.y (onY 1) (onY 3) vy ∧
        (u.2.1 = true ↔ vx < 0 ∨ 4095 < vx ∨ vy < 0 ∨ 4095 < vy))

/-! ### Switches and the Idle Monitor -/

/-- A raw input takes a level (R144): away from its debounced level its timer starts at 0, back at it the timer stops; with a
debounce time above 0 nothing else happens yet (a debounce time of 0 is left out here). In STOPPED and LOADING a debounce that
completes moves the debounced level and goes no further (R145). That the command completes a debounce whatever its timer's
elapsed time is the model's choice (log entry 10). -/
def Obligations.SwitchInputsAreDebounced : Prop :=
  ∀ (s : State) (n : Fin 8) (p : Bool), s.regs.device ≠ .halted → s.frameQuiet →
    ((s.inputs.get n).raw ≠ p → 0 < s.config.debounce →
      exec (.switchInputChange n p) s =
        .next (s.setInput n ⟨p, (s.inputs.get n).level, if p = (s.inputs.get n).level then none else some 0⟩)) ∧
    (s.regs.device ≠ .running → (s.inputs.get n).timer ≠ none →
      exec (.debounceCompletion n) s = .next (s.setInput n ⟨(s.inputs.get n).raw, (s.inputs.get n).raw, none⟩))

/-- A press in RUNNING (R90, R91, R147): the tip or foot input of a channel in WATCH, if the trigger source allows its role,
moves the channel to PRESSED and opens its press window with the frame and the frame clock of the press. Left out here: a press
that a DIM Idle Monitor passes, and presses ignored in the other states. That the command completes a debounce with any running
timer is the model's choice (log entry 10). -/
def Obligations.PressOpensWindow : Prop :=
  ∀ (s : State) (n : Fin 8) (c : Chan) (r : Role), s.regs.device = .running → s.frameQuiet →
    (s.inputs.get n).timer ≠ none → (s.inputs.get n).raw = true → s.penInput n = some (c, r) →
    (s.chanConfig c).trigger.allows r = true → (s.chan c).mode = .watch → s.idle.dim = false →
    ∃ t, exec (.debounceCompletion n) s = .next t ∧
      t.chan c = { s.chan c with
        mode := .pressed, windowCount := (s.chanConfig c).pressWindow, windowFrames := 0,
        press := some ⟨r, s.beam.frame, s.beam.clock⟩, stage := .noStrike, windowResults := 0, windowEcho := false } ∧
      (t.inputs.get n).level = true ∧ (t.inputs.get n).timer = none ∧
      (∀ m, m ≠ n → t.inputs.get m = s.inputs.get m) ∧ t.idle = ⟨false, 0⟩ ∧
      t.chan (otherChan c) = s.chan (otherChan c) ∧ t.log = s.log ∧ t.mem = s.mem ∧ t.beam = s.beam

/-- A console switch change in RUNNING (R147, R148, R150): passed by the Idle Monitor and selected by the mask, it gives a
SWITCH record with source CONSOLE; not passed or not selected, it gives none. That the command completes a debounce with any
running timer is the model's choice (log entry 10). -/
def Obligations.ConsoleSwitchRecord : Prop :=
  ∀ (s : State) (n : Fin 8), s.regs.device = .running → s.frameQuiet → s.busQuiet → s.logReady → Memory.wf s.mem →
    (s.inputs.get n).timer ≠ none → s.penInput n = none →
    let passed := s.idle.dim = false ∨ s.config.consoleGate.report = true
    ∃ t, exec (.debounceCompletion n) s = .next t ∧ (t.inputs.get n).level = (s.inputs.get n).raw ∧
      (passed → s.config.reportMask.getLsbD n.val = true →
        recorded s t ⟨.console, s.beam.frame, {}, .switch n.val (s.inputs.get n).raw⟩ ∧ sameExcept s t [s.slotRange]) ∧
      (¬passed ∨ s.config.reportMask.getLsbD n.val = false → unrecorded s t ∧ t.mem = s.mem) ∧
      t.idle = (if s.idle.dim = true ∧ s.config.consoleGate.wake = false then s.idle else ⟨false, 0⟩) ∧
      t.chans = s.chans ∧ t.beam = s.beam

/-- The idle timer reaching a non-zero idle time puts an AWAKE monitor in DIM, and DIM is presented; nothing else changes (R149,
R157). That the command does so whatever the timer's elapsed time is the model's choice (log entry 10). -/
def Obligations.IdleTimeoutDims : Prop :=
  ∀ s : State, s.regs.device = .running → s.idle.dim = false → s.config.idleSeconds ≠ 0 →
    ∃ t, exec .idleTimeout s = .next t ∧ t.dimShown = true ∧ t = { s with idle := t.idle }

/-! ### Tables and the start -/

/-- A table's read, from its begin to its validated copy. In RUNNING the look at an IDLE table begins a read where its revision
is even and not the installed one, and does nothing otherwise; a table READING or WAITING is not looked at (R173). At the end of
the read, with its revision unchanged the table is WAITING with the validated copy, and otherwise it is IDLE (R174). The
installed tables and everything else stay. That the copy is what the read has got so far, and for the rest the bytes that stand
in the area at READ END, is the model's choice (log entry 6). Validation (R176, section 12.2): a configuration field in its range is
kept and one outside takes its default, K judged against M and N against P, and the mask and the wake and report flags are taken as
written; an assignment that an earlier one names becomes NONE (R146); the group table holds entries 0 to 60 with class, draggable
and view, a view that is neither 0 to 7 nor 0xFF being NONE and one defaulted field (R72); a view field outside its range is 0 and
one defaulted field; a menu table holds 1 to 32 sheets of at most 16 buttons, its inert buttons are those of R107, and an initial
choice is kept only on a CHOICE button that is not inert (R106). A count of defaulted fields is 255 at most. The counts of the
configuration and the menu table are left out beyond that. -/
def Obligations.ReadEndWaitsOrDiscards : Prop :=
  (∀ (s : State) (t : TableId), s.busQuiet →
    let r := s.revisionWord t
    (s.loader.loads.get t = .idle → r.toNat % 2 = 0 → s.loader.revisions.get t ≠ some r →
      s.lookRunning t = s.setLoad t (.reading r [])) ∧
    (s.loader.loads.get t ≠ .idle ∨ r.toNat % 2 = 1 ∨ s.loader.revisions.get t = some r → s.lookRunning t = s)) ∧
  (∀ (s : State) (t : TableId) (r : Word) (got : List Byte), (s.regs.device = .loading ∨ s.regs.device = .running) → s.busQuiet →
    s.loader.loads.get t = .reading r got →
    let copy := validate t (got ++ s.areaBytes (tableOffset t + got.length) (tableLength t - got.length))
    exec (.readEnd t) s =
      .next (s.setLoad t (if s.revisionWord t = r then .waiting r copy.1 copy.2 else .idle))) ∧
  (∀ img : List Byte, ∃ cfg n, validate .config img = (.config cfg, n) ∧ n ≤ 255 ∧
    let field := fun i lo hi d : Nat => if lo ≤ u8 img i ∧ u8 img i ≤ hi then u8 img i else d
    let alone := fun (i : Nat) (d : Fin 8) => if h : u8 img i < 8 then some ⟨u8 img i, h⟩ else if u8 img i = 255 then none else some d
    let raw : List (Option (Fin 8)) := [alone 0x14 0, alone 0x15 2, alone 0x34 1, alone 0x35 3]
    (∀ c, let o := match c with | .a => 0x00 | .b => 0x20
      let x := cfg.chans.get c
      x.cableClass = field (o + 1) 0 3 0 ∧ x.delayOverride = (if u16 img (o + 4) ≤ 511 then u16 img (o + 4) else 0) ∧
        x.aperture = u8 img (o + 6) ∧ x.glareThreshold = field (o + 7) 4 250 60 ∧ x.m = field (o + 8) 1 15 6 ∧
        x.k = field (o + 9) 1 x.m (min 3 x.m) ∧ x.pressWindow = field (o + 10) 1 15 8 ∧ x.home = field (o + 12) 0 31 0 ∧
        x.guardExp = field (o + 14) 0 16 0 ∧ x.lossLimit = field (o + 17) 1 15 4 ∧
        x.armLength = (if 8 ≤ u16 img (o + 18) ∧ u16 img (o + 18) ≤ 256 then u16 img (o + 18) else 32) ∧
        (x.enable = true ↔ u8 img o = 1) ∧ x.edge = (if u8 img (o + 2) = 1 then .falling else .rising) ∧
        x.trigger = (if u8 img (o + 3) = 1 then .foot else if u8 img (o + 3) = 2 then .either else .tip) ∧
        (x.buttonsOnSight = true ↔ u8 img (o + 11) = 1) ∧
        x.guardDir = (if u8 img (o + 13) = 1 then .upper else if u8 img (o + 13) = 2 then .lower
          else if u8 img (o + 13) = 3 then .all else .none) ∧
        (x.startLocked = true ↔ u8 img (o + 15) = 1) ∧
        x.contest = (if u8 img (o + 16) = 1 then .refuse else .pickOnly)) ∧
    cfg.reportMask = img.getD 0x41 0 ∧
    cfg.strikeGate = ⟨(u8 img 0x45).testBit 0, (u8 img 0x45).testBit 1⟩ ∧
    cfg.penGate = ⟨(u8 img 0x45).testBit 2, (u8 img 0x45).testBit 3⟩ ∧
    cfg.consoleGate = ⟨(u8 img 0x45).testBit 4, (u8 img 0x45).testBit 5⟩ ∧
    cfg.debounce = field 0x40 0 31 5 ∧ cfg.period = field 0x42 2 255 20 ∧
    cfg.onCount = field 0x43 1 (cfg.period - 1) (min 10 (cfg.period - 1)) ∧ cfg.confirmTimeout = field 0x44 8 255 80 ∧
    cfg.idleSeconds = (if u16 img 0x46 ≤ 3600 then u16 img 0x46 else 600) ∧
    [cfg.chans.a.tip, cfg.chans.a.foot, cfg.chans.b.tip, cfg.chans.b.foot] =
      (List.range 4).map fun i => if raw.getD i none ∈ raw.take i then none else raw.getD i none) ∧
  (∀ img : List Byte, ∃ groups n, validate .group img = (.group groups, n) ∧ groups.length = 61 ∧
    n = min 255 ((List.range 61).filter fun g => 7 < u8 img (4 * g + 2) ∧ u8 img (4 * g + 2) ≠ 255).length ∧
    ∀ (g : Nat) (e : GroupEntry), groups[g]? = some e → e.pickClass = u8 img (4 * g) % 8 ∧
      (e.draggable = true ↔ u8 img (4 * g + 1) % 2 = 1) ∧
      e.view = if u8 img (4 * g + 2) ≤ 7 then some (u8 img (4 * g + 2)) else none) ∧
  (∀ img : List Byte, ∃ views n, validate .view img = (.view views, n) ∧ views.length = 8 ∧
    (let display := fun i => u16 img i ≤ 4095
      let within := fun (lim : Int) (i : Nat) => -lim ≤ i32 img i ∧ i32 img i ≤ lim
      n = min 255 ((List.range 8).map fun v => ([decide (¬display (32 * v)), decide (¬display (32 * v + 2)),
        decide (¬within 2000000 (32 * v + 4)), decide (¬within 2000000 (32 * v + 8)), decide (¬within 1000000 (32 * v + 12)),
        decide (¬within 1000000 (32 * v + 16))].filter id).length).sum ∧
      ∀ (v : Nat) (w : ViewEntry), views[v]? = some w →
        w.dx = (if display (32 * v) then u16 img (32 * v) else 0) ∧
        w.dy = (if display (32 * v + 2) then u16 img (32 * v + 2) else 0) ∧
        w.ox = (if within 2000000 (32 * v + 4) then i32 img (32 * v + 4) else 0) ∧
        w.oy = (if within 2000000 (32 * v + 8) then i32 img (32 * v + 8) else 0) ∧
        w.sx = (if within 1000000 (32 * v + 12) then i32 img (32 * v + 12) else 0) ∧
        w.sy = (if within 1000000 (32 * v + 16) then i32 img (32 * v + 16) else 0))) ∧
  ∀ img : List Byte, ∃ sheets n, validate .menu img = (.menu sheets, n) ∧ n ≤ 255 ∧
    sheets.length = max 1 (min 32 (u8 img 0)) ∧
    ∀ (j : Nat) (sh : Sheet), sheets[j]? = some sh →
      let o := 0x10 + 136 * j
      sh.modal = bitAt img (o + 1) 0 ∧ sh.buttons.length = min 16 (u8 img o) ∧
        (∀ v, sh.initialChoice = some v ↔ v = u8 img (o + 2) ∧ v ≠ 255 ∧
          ∃ b, sh.buttons[v]? = some b ∧ b.kind = some .choice ∧ b.inert = false) ∧
        ∀ (i : Nat) (b : Button), sh.buttons[i]? = some b →
          let w := o + 8 + 8 * i
          b.tag = u16 img w ∧ b.code = u8 img (w + 3) ∧ b.target = u8 img (w + 4) ∧ b.confirm = bitAt img (w + 5) 0 ∧
            b.initialOn = bitAt img (w + 5) 1 ∧
            b.kind = [none, some .command, some .openSheet, some .back, some .toggle, some .choice].getD (u8 img (w + 2)) none ∧
            (b.inert = true ↔ b.kind = none ∨ (b.kind = some .openSheet ∧ sheets.length ≤ b.target) ∨
              ∃ x ∈ sh.buttons.take i, x.tag = b.tag)

/-- The start (R177): a FRAME START in LOADING that finds all four tables WAITING at the revisions of the header makes the
device RUNNING in an OPEN frame, puts each channel with "enable" 1 in WATCH with the delay of R34, sets the locks from "start
locked", and sets LOAD. And the installs of a FRAME START in RUNNING: with no table WAITING nothing happens (R175); an install
of the menu table puts its copy and revision in use, sets the last load outcome and LOAD (R175, R176), and in each channel sets
the toggle states and selections to the initial ones and cuts the stack, which becomes [home] where the home sheet in use has
changed (R120; stated with no button armed). An install of the configuration enables an OFF channel (R19), disables an enabled
one (R20), or leaves the state of one that stays as it is, where no field of R25 and R89 changes. -/
def Obligations.StartMakesRunning : Prop :=
  (∀ (s : State) (cfg : Configuration) (gs : List GroupEntry) (vs : List ViewEntry) (ms : List Sheet) (n1 n2 n3 n4 : Nat),
    s.regs.device = .loading → s.busQuiet → s.frameQuiet → s.log.held = [] → Memory.wf s.mem →
    (∀ c, s.chan c = Channel.reset) → (∀ c, s.menu c = Menu.reset) → s.loader.tables = Tables.reset →
    s.loader.loads = ⟨.waiting (s.revisionWord .config) (.config cfg) n1, .waiting (s.revisionWord .group) (.group gs) n2,
      .waiting (s.revisionWord .view) (.view vs) n3, .waiting (s.revisionWord .menu) (.menu ms) n4⟩ →
    Memory.read s.mem (s.area 0x20) = 0 → (∀ n, (s.inputs.get n).timer = none) →
    ∃ t, exec .frameStart s = .next t ∧ t.regs.device = .running ∧ t.beam.isOpen = true ∧ t.beam.clock = 0 ∧
      t.beam.frame = (s.beam.frame + 1) % 65536 ∧ t.tables = ⟨some cfg, gs, vs, ms⟩ ∧ t.regs.causes.load = true ∧
      (∀ c, (t.chan c).mode = (if (cfg.chans.get c).enable then .watch else .off) ∧
        (1 ≤ (cfg.chans.get c).delayOverride → (t.chan c).delay = (cfg.chans.get c).delayOverride) ∧
        ((cfg.chans.get c).delayOverride = 0 → (cfg.chans.get c).cableClass ≤ 3 →
          (t.chan c).delay = [48, 96, 160, 240].getD (cfg.chans.get c).cableClass 0)) ∧
      (∀ c (g : Nat), g < 61 → t.locked c g = (cfg.chans.get c).startLocked) ∧ t.claims.entries = s.claims.entries ∧
      t.log = s.log) ∧
  (∀ s : State, (∀ i, (s.loader.loads.get i).waitingRevision = none) → s.install false = s) ∧
  (∀ (s : State) (r : Word) (ms : List Sheet) (n : Nat), s.regs.device = .running → s.busQuiet →
    s.loader.loads.menu = .waiting r (.menu ms) n → (∀ i, i ≠ .menu → (s.loader.loads.get i).waitingRevision = none) →
    ms ≠ [] → (∀ c, (s.menu c).armed = none) →
    let t := s.install false
    let revs := { s.loader.revisions with menu := some r }
    t.tables = { s.tables with sheets := ms } ∧ t.loader.loads = { s.loader.loads with menu := .idle } ∧
      t.loader.revisions = revs ∧
      t.loader.outcome = ⟨s.beam.frame, ⟨false, false, false, true⟩,
        ⟨revs.config.getD 0, revs.group.getD 0, revs.view.getD 0, r⟩, ⟨0, 0, 0, n⟩⟩ ∧
      t.regs = { s.regs with causes := { s.regs.causes with load := true } } ∧ t.chans = s.chans ∧ t.claims = s.claims ∧
      t.log = s.log ∧ sameExcept s t [s.statusRange] ∧
      ∀ c, let field := (s.chanConfig c).home
        let home := if field < ms.length then field else 0
        t.menu c = { s.menu c with
          home := home
          stack := if home = (s.menu c).home then (s.menu c).stack.takeWhile (fun x => decide (x < ms.length)) else [home]
          toggles := ms.map fun sh => sh.buttons.map fun b => decide (b.kind = some .toggle) && b.initialOn
          choices := ms.map Sheet.initialChoice }) ∧
  ∀ (s : State) (c : Chan) (was now : ChannelConfig), s.regs.device = .running → s.busQuiet →
    let t := s.installChan c was now
    let delay := if now.delayOverride = 0 then (match now.cableClass with | 1 => 96 | 2 => 160 | 3 => 240 | _ => 48)
      else now.delayOverride
    let taken : Channel := { s.chan c with
      cableClass := some now.cableClass
      delayOverride := some now.delayOverride
      delay := if (s.chan c).cableClass = some now.cableClass ∧ (s.chan c).delayOverride = some now.delayOverride then
        (s.chan c).delay else delay }
    t.chan (otherChan c) = s.chan (otherChan c) ∧
      ((s.chan c).mode = .off → now.enable = true →
        t.chan c = { taken with
          delay := delay, mode := .watch, strikes := 0, pendingStrikes := [], results := [], table := [], echo := .none
          glareTimer := if (s.chan c).lineHigh = (match now.edge with | .rising => true | .falling => false) then some 0 else none }) ∧
      ((s.chan c).mode = .off → now.enable = false → t.chan c = taken) ∧
      ((s.chan c).mode ≠ .off → now.enable = true → was.m = now.m → was.k = now.k → was.edge = now.edge →
        was.glareThreshold = now.glareThreshold → t.chan c = taken) ∧
      ((s.chan c).mode ≠ .off → now.enable = false →
        (t.chan c).mode = .off ∧ (t.chan c).collection = none ∧ (t.chan c).pendingStrikes = [] ∧ (t.chan c).results = [] ∧
          (t.chan c).table = [] ∧ (t.chan c).echo = .none ∧ (t.chan c).glareTimer = none ∧
          t.feedback.entry.get c = none ∧
          t.claims.entries = if (s.chan c).mode = .tracking ∨ (s.chan c).mode = .suspended then
            s.claims.entries.filter fun k => k.holder != .pen c else s.claims.entries)

/-! ### Requests -/

/-- LOCK GROUP, UNLOCK GROUP, LOCK ALL and UNLOCK ALL (R76, R77): a channel other than A or B gives UNKNOWN, a group above 60
OUT OF RANGE; otherwise DONE in every channel state, with the channel's flag for the group, or all its 61 flags, set or
cleared. -/
def Obligations.LockRequests : Prop :=
  ∀ (s : State) (r : RequestArgs) (v : Bool), s.accepts r →
    let one := if v then Instr.lockGroup r else .unlockGroup r
    let all := if v then Instr.lockAll r else .unlockAll r
    let flagsOnly := fun t : State => unrecorded s t ∧ t.chans = s.chans ∧ t.menus = s.menus ∧ t.claims = s.claims ∧
      sameBlink s t ∧ sameExcept s t [s.cellRange, s.statusRange]
    (r.namesNone → ∃ t, exec one s = .next t ∧ requestRefused s t r .unknown) ∧
    (r.namesNone → ∃ t, exec all s = .next t ∧ requestRefused s t r .unknown) ∧
    ∀ c, r.channel = chanField c →
      (60 < r.first.toNat → ∃ t, exec one s = .next t ∧ requestRefused s t r .outOfRange) ∧
      (r.first.toNat ≤ 60 → ∃ t, exec one s = .next t ∧ requestDone s t r .done ∧ flagsOnly t ∧
        ∀ d (g : Nat), t.locked d g = if d = c ∧ g = r.first.toNat then v else s.locked d g) ∧
      (∃ t, exec all s = .next t ∧ requestDone s t r .done ∧ flagsOnly t ∧
        ∀ d (g : Nat), g ≤ 60 → t.locked d g = if d = c then v else s.locked d g)

/-- CLAIM (R125): WRONG STATE for a tag that is held, TABLE FULL with 8 entries held, and otherwise DONE in every state of both
channels, with the tag and PROGRAM at the end of the Claim Table. From then on the tag is refused to both channels in every
drawing group. -/
def Obligations.ClaimRequest : Prop :=
  ∀ (s : State) (r : RequestArgs), s.accepts r →
    let held := ∃ k ∈ s.claims.entries, k.tag = r.first.toNat
    (held → ∃ t, exec (.claim r) s = .next t ∧ requestRefused s t r .wrongState) ∧
    (¬held → 8 ≤ s.claims.entries.length → ∃ t, exec (.claim r) s = .next t ∧ requestRefused s t r .tableFull) ∧
    (¬held → s.claims.entries.length < 8 →
      ∃ t, exec (.claim r) s = .next t ∧ requestDone s t r .done ∧
        t.claims = { s.claims with entries := s.claims.entries ++ [⟨r.first.toNat, .program⟩] } ∧
        (∀ c g, g ≤ 60 → t.permits t.claims.entries c g r.first.toNat = false) ∧
        unrecorded s t ∧ t.chans = s.chans ∧ t.menus = s.menus ∧ t.locks = s.locks ∧ sameBlink s t ∧
        sameExcept s t [s.cellRange, s.statusRange])

/-- RELEASE (R126): NOT FOUND for a tag that is not held; a PROGRAM entry is removed; a pen's tracking ends with a TRACK END
record, reason RELEASED, at its current centre, its claim is removed and its channel goes to WATCH. The bits of a record that
R169 does not list are 0 by the model's choice (log entry 32). -/
def Obligations.ReleaseRequest : Prop :=
  ∀ (s : State) (r : RequestArgs), s.accepts r → claimsLaw s.claims.entries →
    let tag := r.first.toNat
    ((∀ k ∈ s.claims.entries, k.tag ≠ tag) → ∃ t, exec (.release r) s = .next t ∧ requestRefused s t r .notFound) ∧
    (⟨tag, .program⟩ ∈ s.claims.entries →
      ∃ t, exec (.release r) s = .next t ∧ requestDone s t r .done ∧
        t.claims = { s.claims with entries := s.claims.entries.filter fun k => k.tag != tag } ∧
        unrecorded s t ∧ t.chans = s.chans ∧ t.menus = s.menus ∧ t.locks = s.locks ∧ sameBlink s t ∧
        sameExcept s t [s.cellRange, s.statusRange]) ∧
    ∀ c g, ⟨tag, .pen c⟩ ∈ s.claims.entries → (s.chan c).tracked = some (g, tag) → s.logReady →
      ∃ t, exec (.release r) s = .next t ∧ requestDone s t r .done ∧
        recorded s t ⟨.chan c, s.beam.frame, {},
          .trackEnd g tag (s.chan c).centre (loftPoint s.tables g (s.chan c).centre) .released (s.chan c).duration⟩ ∧
        t.claims = { s.claims with entries := s.claims.entries.filter fun k => k.holder != .pen c } ∧
        t.chan c = { s.chan c with
          mode := .watch, tracked := none, loss := 0, duration := 0, echoInCentre := false, results := [] } ∧
        t.chan (otherChan c) = s.chan (otherChan c) ∧ t.menus = s.menus ∧ t.locks = s.locks ∧ sameBlink s t ∧
        sameExcept s t [s.cellRange, s.statusRange, s.slotRange]

/-- SUSPEND TRACK and RESUME TRACK (R140, R141): UNKNOWN without a channel, WRONG STATE in any state but TRACKING, or SUSPENDED.
Suspending freezes the channel; resuming with the tip held goes back to TRACKING with the loss count 0, and with the tip not
held ends the tracking with reason DROPPED at the frozen centre. The bits of a record that R169 does not list are 0 by the
model's choice (log entry 32). -/
def Obligations.SuspendAndResume : Prop :=
  ∀ (s : State) (r : RequestArgs), s.accepts r →
    (r.namesNone → ∃ t, exec (.suspendTrack r) s = .next t ∧ requestRefused s t r .unknown) ∧
    (r.namesNone → ∃ t, exec (.resumeTrack r) s = .next t ∧ requestRefused s t r .unknown) ∧
    ∀ c, r.channel = chanField c →
      let keeps := fun t : State => t.chan (otherChan c) = s.chan (otherChan c) ∧ t.menus = s.menus ∧ t.locks = s.locks ∧
        sameBlink s t
      ((s.chan c).mode ≠ .tracking → ∃ t, exec (.suspendTrack r) s = .next t ∧ requestRefused s t r .wrongState) ∧
      ((s.chan c).mode ≠ .suspended → ∃ t, exec (.resumeTrack r) s = .next t ∧ requestRefused s t r .wrongState) ∧
      ((s.chan c).mode = .tracking →
        ∃ t, exec (.suspendTrack r) s = .next t ∧ requestDone s t r .done ∧ unrecorded s t ∧
          t.chan c = { s.chan c with mode := .suspended } ∧ t.claims = s.claims ∧ keeps t ∧
          sameExcept s t [s.cellRange, s.statusRange]) ∧
      ((s.chan c).mode = .suspended → s.tipHeld c = true →
        ∃ t, exec (.resumeTrack r) s = .next t ∧ requestDone s t r .done ∧ unrecorded s t ∧
          t.chan c = { s.chan c with mode := .tracking, loss := 0 } ∧ t.claims = s.claims ∧ keeps t ∧
          sameExcept s t [s.cellRange, s.statusRange]) ∧
      ∀ g tag, (s.chan c).mode = .suspended → s.tipHeld c = false → (s.chan c).tracked = some (g, tag) → s.logReady →
        ∃ t, exec (.resumeTrack r) s = .next t ∧ requestDone s t r .done ∧
          recorded s t ⟨.chan c, s.beam.frame, {},
            .trackEnd g tag (s.chan c).centre (loftPoint s.tables g (s.chan c).centre) .dropped (s.chan c).duration⟩ ∧
          (t.chan c).mode = .watch ∧ (t.chan c).tracked = none ∧ (t.chan c).centre = (s.chan c).centre ∧
          t.claims = { s.claims with entries := s.claims.entries.filter fun k => k.holder != .pen c } ∧ keeps t ∧
          sameExcept s t [s.cellRange, s.statusRange, s.slotRange]

/-- CALIBRATE and CANCEL CALIBRATION (R36, R42): UNKNOWN without a channel, WRONG STATE in any state but WATCH, or CALIBRATING.
CALIBRATE discards the frame's strikes and the qualification table and starts a calibration on the dot tag with a budget of 32;
CANCEL ends it with outcome CANCELLED and D unchanged. That the dot tag, "measured this frame" and the frame budget then return
to their reset values is the model's choice (log entry 22); the result of a CANCELLED calibration that holds 8 measurements is
left open here (log entry 19). -/
def Obligations.CalibrateAndCancel : Prop :=
  ∀ (s : State) (r : RequestArgs), s.accepts r →
    (r.namesNone → ∃ t, exec (.calibrate r) s = .next t ∧ requestRefused s t r .unknown) ∧
    (r.namesNone → ∃ t, exec (.cancelCalibration r) s = .next t ∧ requestRefused s t r .unknown) ∧
    ∀ c, r.channel = chanField c →
      let keeps := fun t : State => t.chan (otherChan c) = s.chan (otherChan c) ∧ t.menus = s.menus ∧ t.claims = s.claims ∧
        t.locks = s.locks ∧ sameBlink s t
      ((s.chan c).mode ≠ .watch → ∃ t, exec (.calibrate r) s = .next t ∧ requestRefused s t r .wrongState) ∧
      ((s.chan c).mode ≠ .calibrating →
        ∃ t, exec (.cancelCalibration r) s = .next t ∧ requestRefused s t r .wrongState) ∧
      ((s.chan c).mode = .watch →
        ∃ t, exec (.calibrate r) s = .next t ∧ requestDone s t r .done ∧ unrecorded s t ∧
          t.chan c = { s.chan c with
            pendingStrikes := [], results := [], table := [], dotTag := some r.first.toNat, measures := [],
            measured := false, budget := 32, mode := .calibrating } ∧
          keeps t ∧ sameExcept s t [s.cellRange, s.statusRange]) ∧
      ∀ dot, (s.chan c).mode = .calibrating → (s.chan c).dotTag = some dot → s.logReady →
        ∃ t least most middle, exec (.cancelCalibration r) s = .next t ∧ requestDone s t r .done ∧
          recorded s t ⟨.chan c, s.beam.frame, { echo := (s.chan c).measures.any Measure.echo },
            .calibration .cancelled dot (s.chan c).measures.length least most middle (s.chan c).delay
              (32 - (s.chan c).budget)⟩ ∧
          ((s.chan c).measures = [] → least = none ∧ most = none) ∧
          ((s.chan c).measures ≠ [] → ∃ a b, least = some a ∧ most = some b ∧ a ∈ (s.chan c).measures.map Measure.ticks ∧
            b ∈ (s.chan c).measures.map Measure.ticks ∧ ∀ m ∈ (s.chan c).measures, a ≤ m.ticks ∧ m.ticks ≤ b) ∧
          ((s.chan c).measures.length < 8 → middle = none) ∧
          t.chan c = { s.chan c with
            mode := .watch, dotTag := none, measures := [], measured := false, budget := 0,
            lastCal := some (.cancelled, middle.getD 0) } ∧
          keeps t ∧ sameExcept s t [s.cellRange, s.statusRange, s.slotRange]

/-- OPEN SHEET and HOME MENU (R117, R118): UNKNOWN without a channel, WRONG STATE in OFF, OUT OF RANGE for a sheet that is not
installed, TABLE FULL on a stack of 4. Otherwise the sheet is pushed, or the stack cut to its bottom entry, after an armed
button of the channel has been disarmed with cause STACK, or HOME. The bits of a record that R169 does not list are 0 by the
model's choice (log entry 32). -/
def Obligations.OpenSheetAndHomeMenu : Prop :=
  ∀ (s : State) (r : RequestArgs), s.accepts r →
    (r.namesNone → ∃ t, exec (.openSheet r) s = .next t ∧ requestRefused s t r .unknown) ∧
    (r.namesNone → ∃ t, exec (.homeMenu r) s = .next t ∧ requestRefused s t r .unknown) ∧
    ∀ c, r.channel = chanField c →
      let on := (s.chan c).mode ≠ .off
      let installed := r.first.toNat < s.tables.sheets.length
      let keeps := fun t : State => t.menu (otherChan c) = s.menu (otherChan c) ∧ t.chans = s.chans ∧ t.claims = s.claims ∧
        t.locks = s.locks
      let plain := fun t : State => unrecorded s t ∧ sameBlink s t ∧ sameExcept s t [s.cellRange, s.statusRange]
      let disarmed := fun (t : State) (sheet i : Nat) (cause : DisarmCause) =>
        recorded s t ⟨.chan c, s.beam.frame, {}, s.menuBody c .disarmed sheet i none (some cause)⟩ ∧
          ((s.menu (otherChan c)).armed = none → t.feedback.blink = none) ∧
          sameExcept s t [s.cellRange, s.statusRange, s.slotRange]
      (¬on → ∃ t, exec (.openSheet r) s = .next t ∧ requestRefused s t r .wrongState) ∧
      (¬on → ∃ t, exec (.homeMenu r) s = .next t ∧ requestRefused s t r .wrongState) ∧
      (on → ¬installed → ∃ t, exec (.openSheet r) s = .next t ∧ requestRefused s t r .outOfRange) ∧
      (on → installed → 4 ≤ (s.menu c).stack.length →
        ∃ t, exec (.openSheet r) s = .next t ∧ requestRefused s t r .tableFull) ∧
      (on → installed → (s.menu c).stack.length < 4 → (s.menu c).armed = none →
        ∃ t, exec (.openSheet r) s = .next t ∧ requestDone s t r .done ∧ plain t ∧ keeps t ∧
          t.menu c = { s.menu c with stack := (s.menu c).stack ++ [r.first.toNat] }) ∧
      (∀ sheet i, on → installed → (s.menu c).stack.length < 4 → (s.menu c).armed = some (sheet, i) → s.logReady →
        ∃ t, exec (.openSheet r) s = .next t ∧ requestDone s t r .done ∧ disarmed t sheet i .stack ∧ keeps t ∧
          t.menu c = { s.menu c with stack := (s.menu c).stack ++ [r.first.toNat], armed := none, countdown := 0 }) ∧
      (on → (s.menu c).armed = none →
        ∃ t, exec (.homeMenu r) s = .next t ∧ requestDone s t r .done ∧ plain t ∧ keeps t ∧
          t.menu c = { s.menu c with stack := (s.menu c).stack.take 1 }) ∧
      ∀ sheet i, on → (s.menu c).armed = some (sheet, i) → s.logReady →
        ∃ t, exec (.homeMenu r) s = .next t ∧ requestDone s t r .done ∧ disarmed t sheet i .home ∧ keeps t ∧
          t.menu c = { s.menu c with stack := (s.menu c).stack.take 1, armed := none, countdown := 0 }

/-- COLLECT and END COLLECTION (R101, R103), with their checks in order: UNKNOWN without a channel, WRONG STATE in OFF, OUT OF
RANGE for a count outside 1 to 16, WRONG STATE in GLARE or with a collection active, or with none. COLLECT starts an empty
collection; END COLLECTION ends it with a SEQUENCE END record, outcome ENDED. The bits of a record that R169 does not list are 0
by the model's choice (log entry 32). -/
def Obligations.CollectRequests : Prop :=
  ∀ (s : State) (r : RequestArgs), s.accepts r →
    (r.namesNone → ∃ t, exec (.collect r) s = .next t ∧ requestRefused s t r .unknown) ∧
    (r.namesNone → ∃ t, exec (.endCollection r) s = .next t ∧ requestRefused s t r .unknown) ∧
    ∀ c, r.channel = chanField c →
      let on := (s.chan c).mode ≠ .off
      let n := r.first.toNat
      let keeps := fun t : State => t.chan (otherChan c) = s.chan (otherChan c) ∧ t.menus = s.menus ∧ t.claims = s.claims ∧
        t.locks = s.locks ∧ sameBlink s t
      (¬on → ∃ t, exec (.collect r) s = .next t ∧ requestRefused s t r .wrongState) ∧
      (on → n < 1 ∨ 16 < n → ∃ t, exec (.collect r) s = .next t ∧ requestRefused s t r .outOfRange) ∧
      (on → 1 ≤ n → n ≤ 16 → (s.chan c).mode = .glare ∨ (s.chan c).collection ≠ none →
        ∃ t, exec (.collect r) s = .next t ∧ requestRefused s t r .wrongState) ∧
      (on → 1 ≤ n → n ≤ 16 → (s.chan c).mode ≠ .glare → (s.chan c).collection = none →
        ∃ t, exec (.collect r) s = .next t ∧ requestDone s t r .done ∧ unrecorded s t ∧
          t.chan c = { s.chan c with collection := some ⟨n, n, []⟩ } ∧ keeps t ∧
          sameExcept s t [s.cellRange, s.statusRange]) ∧
      (¬on ∨ (s.chan c).collection = none →
        ∃ t, exec (.endCollection r) s = .next t ∧ requestRefused s t r .wrongState) ∧
      ∀ k, on → (s.chan c).collection = some k → s.logReady →
        ∃ t, exec (.endCollection r) s = .next t ∧ requestDone s t r .done ∧
          recorded s t ⟨.chan c, s.beam.frame, {}, .sequenceEnd .ended k.requested k.tags⟩ ∧
          t.chan c = { s.chan c with collection := none } ∧ keeps t ∧
          sameExcept s t [s.cellRange, s.statusRange, s.slotRange]

/-- INJECT STRIKE (R29), with its checks in order: UNKNOWN without a channel, WRONG STATE in OFF, OUT OF RANGE for a T above
16,777,215, WRONG STATE in GLARE or with an echo scheduled or due; otherwise DONE, and the echo is scheduled with time T. -/
def Obligations.InjectStrikeRequest : Prop :=
  ∀ (s : State) (r : RequestArgs), s.accepts r →
    (r.namesNone → ∃ t, exec (.injectStrike r) s = .next t ∧ requestRefused s t r .unknown) ∧
    ∀ c, r.channel = chanField c →
      let on := (s.chan c).mode ≠ .off
      let time := r.second.toNat
      (¬on → ∃ t, exec (.injectStrike r) s = .next t ∧ requestRefused s t r .wrongState) ∧
      (on → 16777215 < time → ∃ t, exec (.injectStrike r) s = .next t ∧ requestRefused s t r .outOfRange) ∧
      (on → time ≤ 16777215 → (s.chan c).mode = .glare ∨ (s.chan c).echo ≠ .none →
        ∃ t, exec (.injectStrike r) s = .next t ∧ requestRefused s t r .wrongState) ∧
      (on → time ≤ 16777215 → (s.chan c).mode ≠ .glare → (s.chan c).echo = .none →
        ∃ t, exec (.injectStrike r) s = .next t ∧ requestDone s t r .done ∧ unrecorded s t ∧
          t.chan c = { s.chan c with echo := .scheduled time } ∧ t.chan (otherChan c) = s.chan (otherChan c) ∧
          t.areaBytes (match c with | .a => 0x69 | .b => 0x79) 1 = [1] ∧
          t.menus = s.menus ∧ t.claims = s.claims ∧ t.locks = s.locks ∧ sameBlink s t ∧
          sameExcept s t [s.cellRange, s.statusRange])

/-- The request cell at an ATTENTION write (R179, R180): ignored in HALTED; a sequence of 0 or the last taken one is not taken
and changes nothing; any other is taken and completes, with its sequence and outcome in the status section and REQUEST set. A
code outside 1 to 15 gives UNKNOWN and does nothing more. -/
def Obligations.UnknownRequestAndAttention : Prop :=
  ∀ s : State, (s.regs.device = .halted → exec .attentionWrite s = .next s) ∧
    (s.regs.device ≠ .halted → s.busQuiet → s.frameQuiet → Memory.wf s.mem →
      let seq := Memory.read s.mem (s.area 0x20)
      (seq = 0 ∨ seq = s.requests.lastTaken → exec .attentionWrite s = .next s) ∧
      (seq ≠ 0 → seq ≠ s.requests.lastTaken →
        ∃ t, exec .attentionWrite s = .next t ∧ t.requests.lastTaken = seq ∧ t.regs.causes.request = true ∧
          t.areaBytes 0x40 2 = [seq, BitVec.ofNat 8 t.requests.lastOutcome.code] ∧ requestRegs s t ∧ requestFrame s t)) ∧
    ∀ (code : BitVec 8) (r : RequestArgs), s.accepts r → code.toNat = 0 ∨ 15 < code.toNat →
      ∃ t, exec (.unknownRequest code r) s = .next t ∧ requestRefused s t r .unknown

/-! ### The registers and bus errors -/

/-- A write of CONTROL that leaves SOFT RESET clear (R177, R182): RUN and the enables are taken. Setting RUN in STOPPED begins a
start: LOADING with format number 1, HALTED with fault kind FORMAT and FAULT set with another. Setting RUN elsewhere, and
clearing it in STOPPED, changes nothing more. The value decides, whichever of the four rows writes it (log entry 11). -/
def Obligations.ControlWriteStarts : Prop :=
  ∀ (s : State) (v : Word), s.busQuiet → Memory.wf s.mem → v.getLsbD 1 = false →
    ∀ i ∈ [Instr.runSet v, .stop v, .softReset v, .interruptEnablesWrite v],
      let taken : Registers :=
        { s.regs with run := v.getLsbD 0, enables := ⟨v.getLsbD 4, v.getLsbD 5, v.getLsbD 6, v.getLsbD 7⟩ }
      let begins := v.getLsbD 0 = true ∧ s.regs.device = .stopped
      (¬begins → v.getLsbD 0 = true ∨ s.regs.device = .stopped → exec i s = .next { s with regs := taken }) ∧
      (begins → s.areaBytes 0x00 4 = [1, 0, 0, 0] →
        exec i s = .next { s with regs := { taken with device := .loading, faultKind := .none } }) ∧
      (begins → s.areaBytes 0x00 4 ≠ [1, 0, 0, 0] →
        ∃ t, exec i s = .next t ∧ t.areaBytes 0x42 1 = [3] ∧ sameExcept s t [s.statusRange] ∧
          t.regs = { taken with device := .halted, faultKind := .format, causes := { s.regs.causes with fault := true } } ∧
          (∀ c, t.chan c = { s.chan c with glareTimer := none }) ∧
          t = { s with regs := t.regs, mem := t.mem, chans := t.chans })

/-- A stop, a soft reset and a power-on reset (R178): every block returns to its values after reset. A stop keeps the registers
but for the device state, the log's next slot index, the last taken sequence and the last outcome; a soft reset keeps AREA BASE
alone. That the debounced levels follow the raw inputs is R152. The model's choices: the value decides, whichever of the four
CONTROL rows writes it (log entry 11); host memory, the pins, the queue, the bus error to come and the model's own counts stay
(log entry 16); and the frame number of the last load outcome is 0 (log entry 29). -/
def Obligations.StopAndResets : Prop :=
  ∀ (s : State) (v : Word),
    let cleared := fun (t : State) (regs : Registers) (log : LogWriter) (requests : Requests) =>
      (∀ c, t.chan c = { Channel.reset with lineHigh := (s.chan c).lineHigh }) ∧
        (∀ n : Fin 8, t.inputs.get n = ⟨(s.inputs.get n).raw, (s.inputs.get n).raw, none⟩) ∧
        t = { State.reset with
          pending := s.pending, regs := regs, log := log, requests := requests, chans := t.chans, inputs := t.inputs,
          mem := s.mem, busFault := s.busFault, outside := s.outside, ticks := s.ticks, choices := s.choices }
    (∀ i ∈ [Instr.runSet v, .stop v, .softReset v, .interruptEnablesWrite v],
      (v.getLsbD 1 = true →
        ∃ t, exec i s = .next t ∧ cleared t { Registers.reset with areaBase := s.regs.areaBase } ⟨0, 0, []⟩ ⟨0, .done⟩) ∧
      (v.getLsbD 1 = false → v.getLsbD 0 = false → s.regs.device ≠ .stopped →
        ∃ t, exec i s = .next t ∧ cleared t
          { s.regs with
            run := false, enables := ⟨v.getLsbD 4, v.getLsbD 5, v.getLsbD 6, v.getLsbD 7⟩, device := .stopped }
          ⟨s.log.nextSlot, 0, []⟩ s.requests)) ∧
    ∃ t, exec .powerOnReset s = .next t ∧ cleared t Registers.reset ⟨0, 0, []⟩ ⟨0, .done⟩

/-- Writes of STATUS and AREA BASE (R172, R182): each cause and lost flag written with a 1 is cleared and every other bit kept;
AREA BASE takes the value with its low twelve bits 0 while STOPPED and ignores it otherwise. And what the host sees of the
registers (section 12.7): AREA BASE; CONTROL with RUN, SOFT RESET as 0 and the enables; STATUS with the device state, the
causes, the fault kind and the lost flags; ATTENTION as the current frame number. The interrupt line is asserted exactly while a
cause is set with its enable set (R182). -/
def Obligations.StatusAndAreaBaseWrites : Prop :=
  (∀ (s : State) (v : Word),
    let c := s.regs.causes
    let l := s.regs.lost
    exec (.statusWrite v) s = .next { s with regs := { s.regs with
      causes := ⟨c.log && !v.getLsbD 4, c.request && !v.getLsbD 5, c.load && !v.getLsbD 6, c.fault && !v.getLsbD 7⟩
      lost := ⟨l.a && !v.getLsbD 12, l.b && !v.getLsbD 13, l.console && !v.getLsbD 14⟩ } } ∧
    (s.regs.device = .stopped →
      ∃ t, exec (.areaBaseWrite v) s = .next t ∧ t.regs.areaBase.toNat = v.toNat / 4096 * 4096 ∧
        t = { s with regs := { s.regs with areaBase := t.regs.areaBase } }) ∧
    (s.regs.device ≠ .stopped → exec (.areaBaseWrite v) s = .next s)) ∧
  ∀ s : State,
    let g := s.regs
    readRegister s 0x0 = some g.areaBase ∧ readRegister s 0xC = some (BitVec.ofNat 32 s.beam.frame) ∧
    (∃ w : Word, readRegister s 0x4 = some w ∧ w.getLsbD 0 = g.run ∧ w.getLsbD 1 = false ∧ w.getLsbD 4 = g.enables.log ∧
      w.getLsbD 5 = g.enables.request ∧ w.getLsbD 6 = g.enables.load ∧ w.getLsbD 7 = g.enables.fault) ∧
    (∃ w : Word, readRegister s 0x8 = some w ∧
      w.toNat % 4 = (match g.device with | .stopped => 0 | .loading => 1 | .running => 2 | .halted => 3) ∧
      w.toNat / 256 % 4 = (match g.faultKind with | .none => 0 | .busError => 1 | .format => 2) ∧
      w.getLsbD 4 = g.causes.log ∧ w.getLsbD 5 = g.causes.request ∧ w.getLsbD 6 = g.causes.load ∧
      w.getLsbD 7 = g.causes.fault ∧ w.getLsbD 12 = g.lost.a ∧ w.getLsbD 13 = g.lost.b ∧ w.getLsbD 14 = g.lost.console) ∧
    (interruptLine s = true ↔ (g.causes.log ∧ g.enables.log) ∨ (g.causes.request ∧ g.enables.request) ∨
      (g.causes.load ∧ g.enables.load) ∨ (g.causes.fault ∧ g.enables.fault))

/-- A bus error on the access in flight (R183): in LOADING and RUNNING the device enters HALTED with fault kind BUS ERROR and
FAULT set, a table read it belongs to is abandoned, and the status section is written; in STOPPED, on the two accesses made
there, it sets the fault kind and FAULT alone; in HALTED there is none. That an error of a later access waits for it is log
entry 7. -/
def Obligations.BusErrorHalts : Prop :=
  ∀ (s : State) (e : BusError), s.busQuiet → Memory.wf s.mem →
    let fault : Registers := { s.regs with faultKind := .busError, causes := { s.regs.causes with fault := true } }
    (e.ahead = 0 → s.regs.device = .loading ∨ s.regs.device = .running →
      ∃ t, exec (.busError e) s = .next t ∧ t.regs = { fault with device := .halted } ∧ t.areaBytes 0x42 1 = [3] ∧
        (∀ c, t.chan c = { s.chan c with glareTimer := none }) ∧
        (∀ i r got, s.loader.loads.get i = .reading r got → (e.access = .tableRead i ∨ e.access = .revisionRead i) →
          t.loader.loads.get i = .idle) ∧
        (∀ i, (e.access ≠ .tableRead i ∧ e.access ≠ .revisionRead i) → t.loader.loads.get i = s.loader.loads.get i) ∧
        t.tables = s.tables ∧ t.loader.outcome = s.loader.outcome ∧
        t = { s with regs := t.regs, chans := t.chans, loader := t.loader, mem := t.mem } ∧
        sameExcept s t [s.statusRange]) ∧
    (e.ahead = 0 → s.regs.device = .stopped → e.access = .requestRead ∨ e.access = .statusWrite →
      exec (.busError e) s = .next { s with regs := fault }) ∧
    (e.ahead = 0 → s.regs.device = .halted → exec (.busError e) s = .next s) ∧
    (0 < e.ahead → exec (.busError e) s = .next { s with busFault := some e })

/-! ### The Log Writer's holds -/

/-- A record that arrives while the next slot is not FREE (R164, R165, R166): it joins the back of its source's hold, a TRACK
record superseding the one held there; where the hold is full, the record is discarded and its source's lost flag set. Nothing
else changes. Draining (R167): with the holds empty, or the next slot not FREE, it changes nothing; otherwise the oldest held
record of all is written into that slot, and draining goes on with the rest. The bits of a record that R169 does not list are 0
by the model's choice (log entry 32). -/
def Obligations.RecordsWaitForASlot : Prop :=
  (∀ (s : State) (r : Record), s.busQuiet → s.regs.device ≠ .halted → s.slotFree = false →
    let kept := s.log.held.filter fun x => !(r.isTrack && x.isTrack && x.source == r.source)
    let full := 4 ≤ (kept.filter fun x => x.source == r.source).length
    (¬full → s.place r = { s with log := { s.log with held := kept ++ [r] } }) ∧
    (full → s.place r = { s with regs := { s.regs with lost := match r.source with
      | .chan .a => { s.regs.lost with a := true }
      | .chan .b => { s.regs.lost with b := true }
      | .console => { s.regs.lost with console := true } } })) ∧
  ∀ s : State, s.busQuiet →
    (s.log.held = [] ∨ s.slotFree = false → s.drain = s) ∧
    ∀ r rest, s.log.held = r :: rest → s.slotFree = true → s.regs.device ≠ .halted → Memory.wf s.mem →
      ∃ t : State, s.drain = t.drain ∧ t.log = ⟨(s.log.nextSlot + 1) % 64, (s.log.recordNumber + 1) % 65536, rest⟩ ∧
        t.areaBytes (slotOffset s.log.nextSlot) 64 = slotBytes r s.log.recordNumber ∧ sameExcept s t [s.slotRange] ∧
        t = { s with regs := { s.regs with causes := { s.regs.causes with log := true } }, log := t.log, mem := t.mem }
end

