-- ==== Sys2Proof/Laws/State.lean ====
section
/-! SUPPORT. One lemma for each field and each named update of the state that leaves the field as it is, and the reads of the field
that an update writes, so that no proof unfolds a record update. -/

namespace Sys2Proof.Machine

/-! ### setChan -/

@[simp] theorem State.setChan_pending (s : State) (c : Chan) (x : Channel) : (s.setChan c x).pending = s.pending := rfl
@[simp] theorem State.setChan_regs (s : State) (c : Chan) (x : Channel) : (s.setChan c x).regs = s.regs := rfl
@[simp] theorem State.setChan_beam (s : State) (c : Chan) (x : Channel) : (s.setChan c x).beam = s.beam := rfl
@[simp] theorem State.setChan_menus (s : State) (c : Chan) (x : Channel) : (s.setChan c x).menus = s.menus := rfl
@[simp] theorem State.setChan_claims (s : State) (c : Chan) (x : Channel) : (s.setChan c x).claims = s.claims := rfl
@[simp] theorem State.setChan_inputs (s : State) (c : Chan) (x : Channel) : (s.setChan c x).inputs = s.inputs := rfl
@[simp] theorem State.setChan_idle (s : State) (c : Chan) (x : Channel) : (s.setChan c x).idle = s.idle := rfl
@[simp] theorem State.setChan_feedback (s : State) (c : Chan) (x : Channel) : (s.setChan c x).feedback = s.feedback := rfl
@[simp] theorem State.setChan_loader (s : State) (c : Chan) (x : Channel) : (s.setChan c x).loader = s.loader := rfl
@[simp] theorem State.setChan_log (s : State) (c : Chan) (x : Channel) : (s.setChan c x).log = s.log := rfl
@[simp] theorem State.setChan_requests (s : State) (c : Chan) (x : Channel) : (s.setChan c x).requests = s.requests := rfl
@[simp] theorem State.setChan_locks (s : State) (c : Chan) (x : Channel) : (s.setChan c x).locks = s.locks := rfl
@[simp] theorem State.setChan_mem (s : State) (c : Chan) (x : Channel) : (s.setChan c x).mem = s.mem := rfl
@[simp] theorem State.setChan_work (s : State) (c : Chan) (x : Channel) : (s.setChan c x).work = s.work := rfl
@[simp] theorem State.setChan_busFault (s : State) (c : Chan) (x : Channel) : (s.setChan c x).busFault = s.busFault := rfl
@[simp] theorem State.setChan_outside (s : State) (c : Chan) (x : Channel) : (s.setChan c x).outside = s.outside := rfl
@[simp] theorem State.setChan_ticks (s : State) (c : Chan) (x : Channel) : (s.setChan c x).ticks = s.ticks := rfl
@[simp] theorem State.setChan_choices (s : State) (c : Chan) (x : Channel) : (s.setChan c x).choices = s.choices := rfl
@[simp] theorem State.setChan_menu (s : State) (c : Chan) (x : Channel) (d : Chan) : (s.setChan c x).menu d = s.menu d := rfl
@[simp] theorem State.setChan_tables (s : State) (c : Chan) (x : Channel) : (s.setChan c x).tables = s.tables := rfl
@[simp] theorem State.setChan_config (s : State) (c : Chan) (x : Channel) : (s.setChan c x).config = s.config := rfl
@[simp] theorem State.setChan_chanConfig (s : State) (c : Chan) (x : Channel) (d : Chan) : (s.setChan c x).chanConfig d = s.chanConfig d := rfl
@[simp] theorem State.setChan_area (s : State) (c : Chan) (x : Channel) (j : Nat) : (s.setChan c x).area j = s.area j := rfl

/-! ### onChan -/

@[simp] theorem State.onChan_pending (s : State) (c : Chan) (f : Channel → Channel) : (s.onChan c f).pending = s.pending := rfl
@[simp] theorem State.onChan_regs (s : State) (c : Chan) (f : Channel → Channel) : (s.onChan c f).regs = s.regs := rfl
@[simp] theorem State.onChan_beam (s : State) (c : Chan) (f : Channel → Channel) : (s.onChan c f).beam = s.beam := rfl
@[simp] theorem State.onChan_menus (s : State) (c : Chan) (f : Channel → Channel) : (s.onChan c f).menus = s.menus := rfl
@[simp] theorem State.onChan_claims (s : State) (c : Chan) (f : Channel → Channel) : (s.onChan c f).claims = s.claims := rfl
@[simp] theorem State.onChan_inputs (s : State) (c : Chan) (f : Channel → Channel) : (s.onChan c f).inputs = s.inputs := rfl
@[simp] theorem State.onChan_idle (s : State) (c : Chan) (f : Channel → Channel) : (s.onChan c f).idle = s.idle := rfl
@[simp] theorem State.onChan_feedback (s : State) (c : Chan) (f : Channel → Channel) : (s.onChan c f).feedback = s.feedback := rfl
@[simp] theorem State.onChan_loader (s : State) (c : Chan) (f : Channel → Channel) : (s.onChan c f).loader = s.loader := rfl
@[simp] theorem State.onChan_log (s : State) (c : Chan) (f : Channel → Channel) : (s.onChan c f).log = s.log := rfl
@[simp] theorem State.onChan_requests (s : State) (c : Chan) (f : Channel → Channel) : (s.onChan c f).requests = s.requests := rfl
@[simp] theorem State.onChan_locks (s : State) (c : Chan) (f : Channel → Channel) : (s.onChan c f).locks = s.locks := rfl
@[simp] theorem State.onChan_mem (s : State) (c : Chan) (f : Channel → Channel) : (s.onChan c f).mem = s.mem := rfl
@[simp] theorem State.onChan_work (s : State) (c : Chan) (f : Channel → Channel) : (s.onChan c f).work = s.work := rfl
@[simp] theorem State.onChan_busFault (s : State) (c : Chan) (f : Channel → Channel) : (s.onChan c f).busFault = s.busFault := rfl
@[simp] theorem State.onChan_outside (s : State) (c : Chan) (f : Channel → Channel) : (s.onChan c f).outside = s.outside := rfl
@[simp] theorem State.onChan_ticks (s : State) (c : Chan) (f : Channel → Channel) : (s.onChan c f).ticks = s.ticks := rfl
@[simp] theorem State.onChan_choices (s : State) (c : Chan) (f : Channel → Channel) : (s.onChan c f).choices = s.choices := rfl
@[simp] theorem State.onChan_menu (s : State) (c : Chan) (f : Channel → Channel) (d : Chan) : (s.onChan c f).menu d = s.menu d := rfl
@[simp] theorem State.onChan_tables (s : State) (c : Chan) (f : Channel → Channel) : (s.onChan c f).tables = s.tables := rfl
@[simp] theorem State.onChan_config (s : State) (c : Chan) (f : Channel → Channel) : (s.onChan c f).config = s.config := rfl
@[simp] theorem State.onChan_chanConfig (s : State) (c : Chan) (f : Channel → Channel) (d : Chan) : (s.onChan c f).chanConfig d = s.chanConfig d := rfl
@[simp] theorem State.onChan_area (s : State) (c : Chan) (f : Channel → Channel) (j : Nat) : (s.onChan c f).area j = s.area j := rfl

/-! ### stopGlareTimers -/

@[simp] theorem State.stopGlareTimers_pending (s : State) : (s.stopGlareTimers).pending = s.pending := rfl
@[simp] theorem State.stopGlareTimers_regs (s : State) : (s.stopGlareTimers).regs = s.regs := rfl
@[simp] theorem State.stopGlareTimers_beam (s : State) : (s.stopGlareTimers).beam = s.beam := rfl
@[simp] theorem State.stopGlareTimers_menus (s : State) : (s.stopGlareTimers).menus = s.menus := rfl
@[simp] theorem State.stopGlareTimers_claims (s : State) : (s.stopGlareTimers).claims = s.claims := rfl
@[simp] theorem State.stopGlareTimers_inputs (s : State) : (s.stopGlareTimers).inputs = s.inputs := rfl
@[simp] theorem State.stopGlareTimers_idle (s : State) : (s.stopGlareTimers).idle = s.idle := rfl
@[simp] theorem State.stopGlareTimers_feedback (s : State) : (s.stopGlareTimers).feedback = s.feedback := rfl
@[simp] theorem State.stopGlareTimers_loader (s : State) : (s.stopGlareTimers).loader = s.loader := rfl
@[simp] theorem State.stopGlareTimers_log (s : State) : (s.stopGlareTimers).log = s.log := rfl
@[simp] theorem State.stopGlareTimers_requests (s : State) : (s.stopGlareTimers).requests = s.requests := rfl
@[simp] theorem State.stopGlareTimers_locks (s : State) : (s.stopGlareTimers).locks = s.locks := rfl
@[simp] theorem State.stopGlareTimers_mem (s : State) : (s.stopGlareTimers).mem = s.mem := rfl
@[simp] theorem State.stopGlareTimers_work (s : State) : (s.stopGlareTimers).work = s.work := rfl
@[simp] theorem State.stopGlareTimers_busFault (s : State) : (s.stopGlareTimers).busFault = s.busFault := rfl
@[simp] theorem State.stopGlareTimers_outside (s : State) : (s.stopGlareTimers).outside = s.outside := rfl
@[simp] theorem State.stopGlareTimers_ticks (s : State) : (s.stopGlareTimers).ticks = s.ticks := rfl
@[simp] theorem State.stopGlareTimers_choices (s : State) : (s.stopGlareTimers).choices = s.choices := rfl
@[simp] theorem State.stopGlareTimers_menu (s : State) (d : Chan) : (s.stopGlareTimers).menu d = s.menu d := rfl
@[simp] theorem State.stopGlareTimers_tables (s : State) : (s.stopGlareTimers).tables = s.tables := rfl
@[simp] theorem State.stopGlareTimers_config (s : State) : (s.stopGlareTimers).config = s.config := rfl
@[simp] theorem State.stopGlareTimers_chanConfig (s : State) (d : Chan) : (s.stopGlareTimers).chanConfig d = s.chanConfig d := rfl
@[simp] theorem State.stopGlareTimers_area (s : State) (j : Nat) : (s.stopGlareTimers).area j = s.area j := rfl

/-! ### onMenu -/

@[simp] theorem State.onMenu_pending (s : State) (c : Chan) (f : Menu → Menu) : (s.onMenu c f).pending = s.pending := rfl
@[simp] theorem State.onMenu_regs (s : State) (c : Chan) (f : Menu → Menu) : (s.onMenu c f).regs = s.regs := rfl
@[simp] theorem State.onMenu_beam (s : State) (c : Chan) (f : Menu → Menu) : (s.onMenu c f).beam = s.beam := rfl
@[simp] theorem State.onMenu_chans (s : State) (c : Chan) (f : Menu → Menu) : (s.onMenu c f).chans = s.chans := rfl
@[simp] theorem State.onMenu_claims (s : State) (c : Chan) (f : Menu → Menu) : (s.onMenu c f).claims = s.claims := rfl
@[simp] theorem State.onMenu_inputs (s : State) (c : Chan) (f : Menu → Menu) : (s.onMenu c f).inputs = s.inputs := rfl
@[simp] theorem State.onMenu_idle (s : State) (c : Chan) (f : Menu → Menu) : (s.onMenu c f).idle = s.idle := rfl
@[simp] theorem State.onMenu_feedback (s : State) (c : Chan) (f : Menu → Menu) : (s.onMenu c f).feedback = s.feedback := rfl
@[simp] theorem State.onMenu_loader (s : State) (c : Chan) (f : Menu → Menu) : (s.onMenu c f).loader = s.loader := rfl
@[simp] theorem State.onMenu_log (s : State) (c : Chan) (f : Menu → Menu) : (s.onMenu c f).log = s.log := rfl
@[simp] theorem State.onMenu_requests (s : State) (c : Chan) (f : Menu → Menu) : (s.onMenu c f).requests = s.requests := rfl
@[simp] theorem State.onMenu_locks (s : State) (c : Chan) (f : Menu → Menu) : (s.onMenu c f).locks = s.locks := rfl
@[simp] theorem State.onMenu_mem (s : State) (c : Chan) (f : Menu → Menu) : (s.onMenu c f).mem = s.mem := rfl
@[simp] theorem State.onMenu_work (s : State) (c : Chan) (f : Menu → Menu) : (s.onMenu c f).work = s.work := rfl
@[simp] theorem State.onMenu_busFault (s : State) (c : Chan) (f : Menu → Menu) : (s.onMenu c f).busFault = s.busFault := rfl
@[simp] theorem State.onMenu_outside (s : State) (c : Chan) (f : Menu → Menu) : (s.onMenu c f).outside = s.outside := rfl
@[simp] theorem State.onMenu_ticks (s : State) (c : Chan) (f : Menu → Menu) : (s.onMenu c f).ticks = s.ticks := rfl
@[simp] theorem State.onMenu_choices (s : State) (c : Chan) (f : Menu → Menu) : (s.onMenu c f).choices = s.choices := rfl
@[simp] theorem State.onMenu_chan (s : State) (c : Chan) (f : Menu → Menu) (d : Chan) : (s.onMenu c f).chan d = s.chan d := rfl
@[simp] theorem State.onMenu_tables (s : State) (c : Chan) (f : Menu → Menu) : (s.onMenu c f).tables = s.tables := rfl
@[simp] theorem State.onMenu_config (s : State) (c : Chan) (f : Menu → Menu) : (s.onMenu c f).config = s.config := rfl
@[simp] theorem State.onMenu_chanConfig (s : State) (c : Chan) (f : Menu → Menu) (d : Chan) : (s.onMenu c f).chanConfig d = s.chanConfig d := rfl
@[simp] theorem State.onMenu_area (s : State) (c : Chan) (f : Menu → Menu) (j : Nat) : (s.onMenu c f).area j = s.area j := rfl

/-! ### onRegs -/

@[simp] theorem State.onRegs_pending (s : State) (f : Registers → Registers) : (s.onRegs f).pending = s.pending := rfl
@[simp] theorem State.onRegs_beam (s : State) (f : Registers → Registers) : (s.onRegs f).beam = s.beam := rfl
@[simp] theorem State.onRegs_chans (s : State) (f : Registers → Registers) : (s.onRegs f).chans = s.chans := rfl
@[simp] theorem State.onRegs_menus (s : State) (f : Registers → Registers) : (s.onRegs f).menus = s.menus := rfl
@[simp] theorem State.onRegs_claims (s : State) (f : Registers → Registers) : (s.onRegs f).claims = s.claims := rfl
@[simp] theorem State.onRegs_inputs (s : State) (f : Registers → Registers) : (s.onRegs f).inputs = s.inputs := rfl
@[simp] theorem State.onRegs_idle (s : State) (f : Registers → Registers) : (s.onRegs f).idle = s.idle := rfl
@[simp] theorem State.onRegs_feedback (s : State) (f : Registers → Registers) : (s.onRegs f).feedback = s.feedback := rfl
@[simp] theorem State.onRegs_loader (s : State) (f : Registers → Registers) : (s.onRegs f).loader = s.loader := rfl
@[simp] theorem State.onRegs_log (s : State) (f : Registers → Registers) : (s.onRegs f).log = s.log := rfl
@[simp] theorem State.onRegs_requests (s : State) (f : Registers → Registers) : (s.onRegs f).requests = s.requests := rfl
@[simp] theorem State.onRegs_locks (s : State) (f : Registers → Registers) : (s.onRegs f).locks = s.locks := rfl
@[simp] theorem State.onRegs_mem (s : State) (f : Registers → Registers) : (s.onRegs f).mem = s.mem := rfl
@[simp] theorem State.onRegs_work (s : State) (f : Registers → Registers) : (s.onRegs f).work = s.work := rfl
@[simp] theorem State.onRegs_busFault (s : State) (f : Registers → Registers) : (s.onRegs f).busFault = s.busFault := rfl
@[simp] theorem State.onRegs_outside (s : State) (f : Registers → Registers) : (s.onRegs f).outside = s.outside := rfl
@[simp] theorem State.onRegs_ticks (s : State) (f : Registers → Registers) : (s.onRegs f).ticks = s.ticks := rfl
@[simp] theorem State.onRegs_choices (s : State) (f : Registers → Registers) : (s.onRegs f).choices = s.choices := rfl
@[simp] theorem State.onRegs_chan (s : State) (f : Registers → Registers) (d : Chan) : (s.onRegs f).chan d = s.chan d := rfl
@[simp] theorem State.onRegs_menu (s : State) (f : Registers → Registers) (d : Chan) : (s.onRegs f).menu d = s.menu d := rfl
@[simp] theorem State.onRegs_tables (s : State) (f : Registers → Registers) : (s.onRegs f).tables = s.tables := rfl
@[simp] theorem State.onRegs_config (s : State) (f : Registers → Registers) : (s.onRegs f).config = s.config := rfl
@[simp] theorem State.onRegs_chanConfig (s : State) (f : Registers → Registers) (d : Chan) : (s.onRegs f).chanConfig d = s.chanConfig d := rfl

/-! ### writeArea -/

@[simp] theorem State.writeArea_pending (s : State) (o : Nat) (bs : List Byte) : (s.writeArea o bs).pending = s.pending := rfl
@[simp] theorem State.writeArea_regs (s : State) (o : Nat) (bs : List Byte) : (s.writeArea o bs).regs = s.regs := rfl
@[simp] theorem State.writeArea_beam (s : State) (o : Nat) (bs : List Byte) : (s.writeArea o bs).beam = s.beam := rfl
@[simp] theorem State.writeArea_chans (s : State) (o : Nat) (bs : List Byte) : (s.writeArea o bs).chans = s.chans := rfl
@[simp] theorem State.writeArea_menus (s : State) (o : Nat) (bs : List Byte) : (s.writeArea o bs).menus = s.menus := rfl
@[simp] theorem State.writeArea_claims (s : State) (o : Nat) (bs : List Byte) : (s.writeArea o bs).claims = s.claims := rfl
@[simp] theorem State.writeArea_inputs (s : State) (o : Nat) (bs : List Byte) : (s.writeArea o bs).inputs = s.inputs := rfl
@[simp] theorem State.writeArea_idle (s : State) (o : Nat) (bs : List Byte) : (s.writeArea o bs).idle = s.idle := rfl
@[simp] theorem State.writeArea_feedback (s : State) (o : Nat) (bs : List Byte) : (s.writeArea o bs).feedback = s.feedback := rfl
@[simp] theorem State.writeArea_loader (s : State) (o : Nat) (bs : List Byte) : (s.writeArea o bs).loader = s.loader := rfl
@[simp] theorem State.writeArea_log (s : State) (o : Nat) (bs : List Byte) : (s.writeArea o bs).log = s.log := rfl
@[simp] theorem State.writeArea_requests (s : State) (o : Nat) (bs : List Byte) : (s.writeArea o bs).requests = s.requests := rfl
@[simp] theorem State.writeArea_locks (s : State) (o : Nat) (bs : List Byte) : (s.writeArea o bs).locks = s.locks := rfl
@[simp] theorem State.writeArea_work (s : State) (o : Nat) (bs : List Byte) : (s.writeArea o bs).work = s.work := rfl
@[simp] theorem State.writeArea_busFault (s : State) (o : Nat) (bs : List Byte) : (s.writeArea o bs).busFault = s.busFault := rfl
@[simp] theorem State.writeArea_outside (s : State) (o : Nat) (bs : List Byte) : (s.writeArea o bs).outside = s.outside := rfl
@[simp] theorem State.writeArea_ticks (s : State) (o : Nat) (bs : List Byte) : (s.writeArea o bs).ticks = s.ticks := rfl
@[simp] theorem State.writeArea_choices (s : State) (o : Nat) (bs : List Byte) : (s.writeArea o bs).choices = s.choices := rfl
@[simp] theorem State.writeArea_chan (s : State) (o : Nat) (bs : List Byte) (d : Chan) : (s.writeArea o bs).chan d = s.chan d := rfl
@[simp] theorem State.writeArea_menu (s : State) (o : Nat) (bs : List Byte) (d : Chan) : (s.writeArea o bs).menu d = s.menu d := rfl
@[simp] theorem State.writeArea_tables (s : State) (o : Nat) (bs : List Byte) : (s.writeArea o bs).tables = s.tables := rfl
@[simp] theorem State.writeArea_config (s : State) (o : Nat) (bs : List Byte) : (s.writeArea o bs).config = s.config := rfl
@[simp] theorem State.writeArea_chanConfig (s : State) (o : Nat) (bs : List Byte) (d : Chan) : (s.writeArea o bs).chanConfig d = s.chanConfig d := rfl
@[simp] theorem State.writeArea_area (s : State) (o : Nat) (bs : List Byte) (j : Nat) : (s.writeArea o bs).area j = s.area j := rfl

/-! ### setLoad -/

@[simp] theorem State.setLoad_pending (s : State) (t : TableId) (x : Load) : (s.setLoad t x).pending = s.pending := rfl
@[simp] theorem State.setLoad_regs (s : State) (t : TableId) (x : Load) : (s.setLoad t x).regs = s.regs := rfl
@[simp] theorem State.setLoad_beam (s : State) (t : TableId) (x : Load) : (s.setLoad t x).beam = s.beam := rfl
@[simp] theorem State.setLoad_chans (s : State) (t : TableId) (x : Load) : (s.setLoad t x).chans = s.chans := rfl
@[simp] theorem State.setLoad_menus (s : State) (t : TableId) (x : Load) : (s.setLoad t x).menus = s.menus := rfl
@[simp] theorem State.setLoad_claims (s : State) (t : TableId) (x : Load) : (s.setLoad t x).claims = s.claims := rfl
@[simp] theorem State.setLoad_inputs (s : State) (t : TableId) (x : Load) : (s.setLoad t x).inputs = s.inputs := rfl
@[simp] theorem State.setLoad_idle (s : State) (t : TableId) (x : Load) : (s.setLoad t x).idle = s.idle := rfl
@[simp] theorem State.setLoad_feedback (s : State) (t : TableId) (x : Load) : (s.setLoad t x).feedback = s.feedback := rfl
@[simp] theorem State.setLoad_log (s : State) (t : TableId) (x : Load) : (s.setLoad t x).log = s.log := rfl
@[simp] theorem State.setLoad_requests (s : State) (t : TableId) (x : Load) : (s.setLoad t x).requests = s.requests := rfl
@[simp] theorem State.setLoad_locks (s : State) (t : TableId) (x : Load) : (s.setLoad t x).locks = s.locks := rfl
@[simp] theorem State.setLoad_mem (s : State) (t : TableId) (x : Load) : (s.setLoad t x).mem = s.mem := rfl
@[simp] theorem State.setLoad_work (s : State) (t : TableId) (x : Load) : (s.setLoad t x).work = s.work := rfl
@[simp] theorem State.setLoad_busFault (s : State) (t : TableId) (x : Load) : (s.setLoad t x).busFault = s.busFault := rfl
@[simp] theorem State.setLoad_outside (s : State) (t : TableId) (x : Load) : (s.setLoad t x).outside = s.outside := rfl
@[simp] theorem State.setLoad_ticks (s : State) (t : TableId) (x : Load) : (s.setLoad t x).ticks = s.ticks := rfl
@[simp] theorem State.setLoad_choices (s : State) (t : TableId) (x : Load) : (s.setLoad t x).choices = s.choices := rfl
@[simp] theorem State.setLoad_chan (s : State) (t : TableId) (x : Load) (d : Chan) : (s.setLoad t x).chan d = s.chan d := rfl
@[simp] theorem State.setLoad_menu (s : State) (t : TableId) (x : Load) (d : Chan) : (s.setLoad t x).menu d = s.menu d := rfl
@[simp] theorem State.setLoad_area (s : State) (t : TableId) (x : Load) (j : Nat) : (s.setLoad t x).area j = s.area j := rfl

/-! ### onClaims -/

@[simp] theorem State.onClaims_pending (s : State) (f : List Claim → List Claim) : (s.onClaims f).pending = s.pending := rfl
@[simp] theorem State.onClaims_regs (s : State) (f : List Claim → List Claim) : (s.onClaims f).regs = s.regs := rfl
@[simp] theorem State.onClaims_beam (s : State) (f : List Claim → List Claim) : (s.onClaims f).beam = s.beam := rfl
@[simp] theorem State.onClaims_chans (s : State) (f : List Claim → List Claim) : (s.onClaims f).chans = s.chans := rfl
@[simp] theorem State.onClaims_menus (s : State) (f : List Claim → List Claim) : (s.onClaims f).menus = s.menus := rfl
@[simp] theorem State.onClaims_inputs (s : State) (f : List Claim → List Claim) : (s.onClaims f).inputs = s.inputs := rfl
@[simp] theorem State.onClaims_idle (s : State) (f : List Claim → List Claim) : (s.onClaims f).idle = s.idle := rfl
@[simp] theorem State.onClaims_feedback (s : State) (f : List Claim → List Claim) : (s.onClaims f).feedback = s.feedback := rfl
@[simp] theorem State.onClaims_loader (s : State) (f : List Claim → List Claim) : (s.onClaims f).loader = s.loader := rfl
@[simp] theorem State.onClaims_log (s : State) (f : List Claim → List Claim) : (s.onClaims f).log = s.log := rfl
@[simp] theorem State.onClaims_requests (s : State) (f : List Claim → List Claim) : (s.onClaims f).requests = s.requests := rfl
@[simp] theorem State.onClaims_locks (s : State) (f : List Claim → List Claim) : (s.onClaims f).locks = s.locks := rfl
@[simp] theorem State.onClaims_mem (s : State) (f : List Claim → List Claim) : (s.onClaims f).mem = s.mem := rfl
@[simp] theorem State.onClaims_work (s : State) (f : List Claim → List Claim) : (s.onClaims f).work = s.work := rfl
@[simp] theorem State.onClaims_busFault (s : State) (f : List Claim → List Claim) : (s.onClaims f).busFault = s.busFault := rfl
@[simp] theorem State.onClaims_outside (s : State) (f : List Claim → List Claim) : (s.onClaims f).outside = s.outside := rfl
@[simp] theorem State.onClaims_ticks (s : State) (f : List Claim → List Claim) : (s.onClaims f).ticks = s.ticks := rfl
@[simp] theorem State.onClaims_choices (s : State) (f : List Claim → List Claim) : (s.onClaims f).choices = s.choices := rfl
@[simp] theorem State.onClaims_chan (s : State) (f : List Claim → List Claim) (d : Chan) : (s.onClaims f).chan d = s.chan d := rfl
@[simp] theorem State.onClaims_menu (s : State) (f : List Claim → List Claim) (d : Chan) : (s.onClaims f).menu d = s.menu d := rfl
@[simp] theorem State.onClaims_tables (s : State) (f : List Claim → List Claim) : (s.onClaims f).tables = s.tables := rfl
@[simp] theorem State.onClaims_config (s : State) (f : List Claim → List Claim) : (s.onClaims f).config = s.config := rfl
@[simp] theorem State.onClaims_chanConfig (s : State) (f : List Claim → List Claim) (d : Chan) : (s.onClaims f).chanConfig d = s.chanConfig d := rfl
@[simp] theorem State.onClaims_area (s : State) (f : List Claim → List Claim) (j : Nat) : (s.onClaims f).area j = s.area j := rfl

/-! ### setAsk -/

@[simp] theorem State.setAsk_pending (s : State) (c : Chan) (k : Option Ask) : (s.setAsk c k).pending = s.pending := rfl
@[simp] theorem State.setAsk_regs (s : State) (c : Chan) (k : Option Ask) : (s.setAsk c k).regs = s.regs := rfl
@[simp] theorem State.setAsk_beam (s : State) (c : Chan) (k : Option Ask) : (s.setAsk c k).beam = s.beam := rfl
@[simp] theorem State.setAsk_chans (s : State) (c : Chan) (k : Option Ask) : (s.setAsk c k).chans = s.chans := rfl
@[simp] theorem State.setAsk_menus (s : State) (c : Chan) (k : Option Ask) : (s.setAsk c k).menus = s.menus := rfl
@[simp] theorem State.setAsk_inputs (s : State) (c : Chan) (k : Option Ask) : (s.setAsk c k).inputs = s.inputs := rfl
@[simp] theorem State.setAsk_idle (s : State) (c : Chan) (k : Option Ask) : (s.setAsk c k).idle = s.idle := rfl
@[simp] theorem State.setAsk_feedback (s : State) (c : Chan) (k : Option Ask) : (s.setAsk c k).feedback = s.feedback := rfl
@[simp] theorem State.setAsk_loader (s : State) (c : Chan) (k : Option Ask) : (s.setAsk c k).loader = s.loader := rfl
@[simp] theorem State.setAsk_log (s : State) (c : Chan) (k : Option Ask) : (s.setAsk c k).log = s.log := rfl
@[simp] theorem State.setAsk_requests (s : State) (c : Chan) (k : Option Ask) : (s.setAsk c k).requests = s.requests := rfl
@[simp] theorem State.setAsk_locks (s : State) (c : Chan) (k : Option Ask) : (s.setAsk c k).locks = s.locks := rfl
@[simp] theorem State.setAsk_mem (s : State) (c : Chan) (k : Option Ask) : (s.setAsk c k).mem = s.mem := rfl
@[simp] theorem State.setAsk_work (s : State) (c : Chan) (k : Option Ask) : (s.setAsk c k).work = s.work := rfl
@[simp] theorem State.setAsk_busFault (s : State) (c : Chan) (k : Option Ask) : (s.setAsk c k).busFault = s.busFault := rfl
@[simp] theorem State.setAsk_outside (s : State) (c : Chan) (k : Option Ask) : (s.setAsk c k).outside = s.outside := rfl
@[simp] theorem State.setAsk_ticks (s : State) (c : Chan) (k : Option Ask) : (s.setAsk c k).ticks = s.ticks := rfl
@[simp] theorem State.setAsk_choices (s : State) (c : Chan) (k : Option Ask) : (s.setAsk c k).choices = s.choices := rfl
@[simp] theorem State.setAsk_chan (s : State) (c : Chan) (k : Option Ask) (d : Chan) : (s.setAsk c k).chan d = s.chan d := rfl
@[simp] theorem State.setAsk_menu (s : State) (c : Chan) (k : Option Ask) (d : Chan) : (s.setAsk c k).menu d = s.menu d := rfl
@[simp] theorem State.setAsk_tables (s : State) (c : Chan) (k : Option Ask) : (s.setAsk c k).tables = s.tables := rfl
@[simp] theorem State.setAsk_config (s : State) (c : Chan) (k : Option Ask) : (s.setAsk c k).config = s.config := rfl
@[simp] theorem State.setAsk_chanConfig (s : State) (c : Chan) (k : Option Ask) (d : Chan) : (s.setAsk c k).chanConfig d = s.chanConfig d := rfl
@[simp] theorem State.setAsk_area (s : State) (c : Chan) (k : Option Ask) (j : Nat) : (s.setAsk c k).area j = s.area j := rfl

/-! ### owe -/

@[simp] theorem State.owe_pending (s : State) (c : Chan) (o : Option Owed) : (s.owe c o).pending = s.pending := rfl
@[simp] theorem State.owe_regs (s : State) (c : Chan) (o : Option Owed) : (s.owe c o).regs = s.regs := rfl
@[simp] theorem State.owe_beam (s : State) (c : Chan) (o : Option Owed) : (s.owe c o).beam = s.beam := rfl
@[simp] theorem State.owe_chans (s : State) (c : Chan) (o : Option Owed) : (s.owe c o).chans = s.chans := rfl
@[simp] theorem State.owe_menus (s : State) (c : Chan) (o : Option Owed) : (s.owe c o).menus = s.menus := rfl
@[simp] theorem State.owe_claims (s : State) (c : Chan) (o : Option Owed) : (s.owe c o).claims = s.claims := rfl
@[simp] theorem State.owe_inputs (s : State) (c : Chan) (o : Option Owed) : (s.owe c o).inputs = s.inputs := rfl
@[simp] theorem State.owe_idle (s : State) (c : Chan) (o : Option Owed) : (s.owe c o).idle = s.idle := rfl
@[simp] theorem State.owe_feedback (s : State) (c : Chan) (o : Option Owed) : (s.owe c o).feedback = s.feedback := rfl
@[simp] theorem State.owe_loader (s : State) (c : Chan) (o : Option Owed) : (s.owe c o).loader = s.loader := rfl
@[simp] theorem State.owe_log (s : State) (c : Chan) (o : Option Owed) : (s.owe c o).log = s.log := rfl
@[simp] theorem State.owe_requests (s : State) (c : Chan) (o : Option Owed) : (s.owe c o).requests = s.requests := rfl
@[simp] theorem State.owe_locks (s : State) (c : Chan) (o : Option Owed) : (s.owe c o).locks = s.locks := rfl
@[simp] theorem State.owe_mem (s : State) (c : Chan) (o : Option Owed) : (s.owe c o).mem = s.mem := rfl
@[simp] theorem State.owe_busFault (s : State) (c : Chan) (o : Option Owed) : (s.owe c o).busFault = s.busFault := rfl
@[simp] theorem State.owe_outside (s : State) (c : Chan) (o : Option Owed) : (s.owe c o).outside = s.outside := rfl
@[simp] theorem State.owe_ticks (s : State) (c : Chan) (o : Option Owed) : (s.owe c o).ticks = s.ticks := rfl
@[simp] theorem State.owe_choices (s : State) (c : Chan) (o : Option Owed) : (s.owe c o).choices = s.choices := rfl
@[simp] theorem State.owe_chan (s : State) (c : Chan) (o : Option Owed) (d : Chan) : (s.owe c o).chan d = s.chan d := rfl
@[simp] theorem State.owe_menu (s : State) (c : Chan) (o : Option Owed) (d : Chan) : (s.owe c o).menu d = s.menu d := rfl
@[simp] theorem State.owe_tables (s : State) (c : Chan) (o : Option Owed) : (s.owe c o).tables = s.tables := rfl
@[simp] theorem State.owe_config (s : State) (c : Chan) (o : Option Owed) : (s.owe c o).config = s.config := rfl
@[simp] theorem State.owe_chanConfig (s : State) (c : Chan) (o : Option Owed) (d : Chan) : (s.owe c o).chanConfig d = s.chanConfig d := rfl
@[simp] theorem State.owe_area (s : State) (c : Chan) (o : Option Owed) (j : Nat) : (s.owe c o).area j = s.area j := rfl

/-! ### setInput -/

@[simp] theorem State.setInput_pending (s : State) (i : Fin 8) (w : Switch) : (s.setInput i w).pending = s.pending := rfl
@[simp] theorem State.setInput_regs (s : State) (i : Fin 8) (w : Switch) : (s.setInput i w).regs = s.regs := rfl
@[simp] theorem State.setInput_beam (s : State) (i : Fin 8) (w : Switch) : (s.setInput i w).beam = s.beam := rfl
@[simp] theorem State.setInput_chans (s : State) (i : Fin 8) (w : Switch) : (s.setInput i w).chans = s.chans := rfl
@[simp] theorem State.setInput_menus (s : State) (i : Fin 8) (w : Switch) : (s.setInput i w).menus = s.menus := rfl
@[simp] theorem State.setInput_claims (s : State) (i : Fin 8) (w : Switch) : (s.setInput i w).claims = s.claims := rfl
@[simp] theorem State.setInput_idle (s : State) (i : Fin 8) (w : Switch) : (s.setInput i w).idle = s.idle := rfl
@[simp] theorem State.setInput_feedback (s : State) (i : Fin 8) (w : Switch) : (s.setInput i w).feedback = s.feedback := rfl
@[simp] theorem State.setInput_loader (s : State) (i : Fin 8) (w : Switch) : (s.setInput i w).loader = s.loader := rfl
@[simp] theorem State.setInput_log (s : State) (i : Fin 8) (w : Switch) : (s.setInput i w).log = s.log := rfl
@[simp] theorem State.setInput_requests (s : State) (i : Fin 8) (w : Switch) : (s.setInput i w).requests = s.requests := rfl
@[simp] theorem State.setInput_locks (s : State) (i : Fin 8) (w : Switch) : (s.setInput i w).locks = s.locks := rfl
@[simp] theorem State.setInput_mem (s : State) (i : Fin 8) (w : Switch) : (s.setInput i w).mem = s.mem := rfl
@[simp] theorem State.setInput_work (s : State) (i : Fin 8) (w : Switch) : (s.setInput i w).work = s.work := rfl
@[simp] theorem State.setInput_busFault (s : State) (i : Fin 8) (w : Switch) : (s.setInput i w).busFault = s.busFault := rfl
@[simp] theorem State.setInput_outside (s : State) (i : Fin 8) (w : Switch) : (s.setInput i w).outside = s.outside := rfl
@[simp] theorem State.setInput_ticks (s : State) (i : Fin 8) (w : Switch) : (s.setInput i w).ticks = s.ticks := rfl
@[simp] theorem State.setInput_choices (s : State) (i : Fin 8) (w : Switch) : (s.setInput i w).choices = s.choices := rfl
@[simp] theorem State.setInput_chan (s : State) (i : Fin 8) (w : Switch) (d : Chan) : (s.setInput i w).chan d = s.chan d := rfl
@[simp] theorem State.setInput_menu (s : State) (i : Fin 8) (w : Switch) (d : Chan) : (s.setInput i w).menu d = s.menu d := rfl
@[simp] theorem State.setInput_tables (s : State) (i : Fin 8) (w : Switch) : (s.setInput i w).tables = s.tables := rfl
@[simp] theorem State.setInput_config (s : State) (i : Fin 8) (w : Switch) : (s.setInput i w).config = s.config := rfl
@[simp] theorem State.setInput_chanConfig (s : State) (i : Fin 8) (w : Switch) (d : Chan) : (s.setInput i w).chanConfig d = s.chanConfig d := rfl
@[simp] theorem State.setInput_area (s : State) (i : Fin 8) (w : Switch) (j : Nat) : (s.setInput i w).area j = s.area j := rfl

/-! ### choose -/

@[simp] theorem State.choose_pending (s : State) (k : List Claim) (c : Chan) : (s.choose k c).pending = s.pending := rfl
@[simp] theorem State.choose_regs (s : State) (k : List Claim) (c : Chan) : (s.choose k c).regs = s.regs := rfl
@[simp] theorem State.choose_beam (s : State) (k : List Claim) (c : Chan) : (s.choose k c).beam = s.beam := rfl
@[simp] theorem State.choose_chans (s : State) (k : List Claim) (c : Chan) : (s.choose k c).chans = s.chans := rfl
@[simp] theorem State.choose_menus (s : State) (k : List Claim) (c : Chan) : (s.choose k c).menus = s.menus := rfl
@[simp] theorem State.choose_claims (s : State) (k : List Claim) (c : Chan) : (s.choose k c).claims = s.claims := rfl
@[simp] theorem State.choose_inputs (s : State) (k : List Claim) (c : Chan) : (s.choose k c).inputs = s.inputs := rfl
@[simp] theorem State.choose_idle (s : State) (k : List Claim) (c : Chan) : (s.choose k c).idle = s.idle := rfl
@[simp] theorem State.choose_loader (s : State) (k : List Claim) (c : Chan) : (s.choose k c).loader = s.loader := rfl
@[simp] theorem State.choose_log (s : State) (k : List Claim) (c : Chan) : (s.choose k c).log = s.log := rfl
@[simp] theorem State.choose_requests (s : State) (k : List Claim) (c : Chan) : (s.choose k c).requests = s.requests := rfl
@[simp] theorem State.choose_locks (s : State) (k : List Claim) (c : Chan) : (s.choose k c).locks = s.locks := rfl
@[simp] theorem State.choose_mem (s : State) (k : List Claim) (c : Chan) : (s.choose k c).mem = s.mem := rfl
@[simp] theorem State.choose_work (s : State) (k : List Claim) (c : Chan) : (s.choose k c).work = s.work := rfl
@[simp] theorem State.choose_busFault (s : State) (k : List Claim) (c : Chan) : (s.choose k c).busFault = s.busFault := rfl
@[simp] theorem State.choose_outside (s : State) (k : List Claim) (c : Chan) : (s.choose k c).outside = s.outside := rfl
@[simp] theorem State.choose_ticks (s : State) (k : List Claim) (c : Chan) : (s.choose k c).ticks = s.ticks := rfl
@[simp] theorem State.choose_choices (s : State) (k : List Claim) (c : Chan) : (s.choose k c).choices = s.choices := rfl
@[simp] theorem State.choose_chan (s : State) (k : List Claim) (c : Chan) (d : Chan) : (s.choose k c).chan d = s.chan d := rfl
@[simp] theorem State.choose_menu (s : State) (k : List Claim) (c : Chan) (d : Chan) : (s.choose k c).menu d = s.menu d := rfl
@[simp] theorem State.choose_tables (s : State) (k : List Claim) (c : Chan) : (s.choose k c).tables = s.tables := rfl
@[simp] theorem State.choose_config (s : State) (k : List Claim) (c : Chan) : (s.choose k c).config = s.config := rfl
@[simp] theorem State.choose_chanConfig (s : State) (k : List Claim) (c : Chan) (d : Chan) : (s.choose k c).chanConfig d = s.chanConfig d := rfl
@[simp] theorem State.choose_area (s : State) (k : List Claim) (c : Chan) (j : Nat) : (s.choose k c).area j = s.area j := rfl

/-! ### chooseNow -/

@[simp] theorem State.chooseNow_pending (s : State) (c : Chan) : (s.chooseNow c).pending = s.pending := rfl
@[simp] theorem State.chooseNow_regs (s : State) (c : Chan) : (s.chooseNow c).regs = s.regs := rfl
@[simp] theorem State.chooseNow_beam (s : State) (c : Chan) : (s.chooseNow c).beam = s.beam := rfl
@[simp] theorem State.chooseNow_chans (s : State) (c : Chan) : (s.chooseNow c).chans = s.chans := rfl
@[simp] theorem State.chooseNow_menus (s : State) (c : Chan) : (s.chooseNow c).menus = s.menus := rfl
@[simp] theorem State.chooseNow_claims (s : State) (c : Chan) : (s.chooseNow c).claims = s.claims := rfl
@[simp] theorem State.chooseNow_inputs (s : State) (c : Chan) : (s.chooseNow c).inputs = s.inputs := rfl
@[simp] theorem State.chooseNow_idle (s : State) (c : Chan) : (s.chooseNow c).idle = s.idle := rfl
@[simp] theorem State.chooseNow_loader (s : State) (c : Chan) : (s.chooseNow c).loader = s.loader := rfl
@[simp] theorem State.chooseNow_log (s : State) (c : Chan) : (s.chooseNow c).log = s.log := rfl
@[simp] theorem State.chooseNow_requests (s : State) (c : Chan) : (s.chooseNow c).requests = s.requests := rfl
@[simp] theorem State.chooseNow_locks (s : State) (c : Chan) : (s.chooseNow c).locks = s.locks := rfl
@[simp] theorem State.chooseNow_mem (s : State) (c : Chan) : (s.chooseNow c).mem = s.mem := rfl
@[simp] theorem State.chooseNow_work (s : State) (c : Chan) : (s.chooseNow c).work = s.work := rfl
@[simp] theorem State.chooseNow_busFault (s : State) (c : Chan) : (s.chooseNow c).busFault = s.busFault := rfl
@[simp] theorem State.chooseNow_outside (s : State) (c : Chan) : (s.chooseNow c).outside = s.outside := rfl
@[simp] theorem State.chooseNow_ticks (s : State) (c : Chan) : (s.chooseNow c).ticks = s.ticks := rfl
@[simp] theorem State.chooseNow_choices (s : State) (c : Chan) : (s.chooseNow c).choices = s.choices := rfl
@[simp] theorem State.chooseNow_chan (s : State) (c : Chan) (d : Chan) : (s.chooseNow c).chan d = s.chan d := rfl
@[simp] theorem State.chooseNow_menu (s : State) (c : Chan) (d : Chan) : (s.chooseNow c).menu d = s.menu d := rfl
@[simp] theorem State.chooseNow_tables (s : State) (c : Chan) : (s.chooseNow c).tables = s.tables := rfl
@[simp] theorem State.chooseNow_config (s : State) (c : Chan) : (s.chooseNow c).config = s.config := rfl
@[simp] theorem State.chooseNow_chanConfig (s : State) (c : Chan) (d : Chan) : (s.chooseNow c).chanConfig d = s.chanConfig d := rfl
@[simp] theorem State.chooseNow_area (s : State) (c : Chan) (j : Nat) : (s.chooseNow c).area j = s.area j := rfl

/-! ### setOutcome -/

@[simp] theorem State.setOutcome_pending (s : State) (o : LoadOutcome) : (s.setOutcome o).pending = s.pending := rfl
@[simp] theorem State.setOutcome_regs (s : State) (o : LoadOutcome) : (s.setOutcome o).regs = s.regs := rfl
@[simp] theorem State.setOutcome_beam (s : State) (o : LoadOutcome) : (s.setOutcome o).beam = s.beam := rfl
@[simp] theorem State.setOutcome_chans (s : State) (o : LoadOutcome) : (s.setOutcome o).chans = s.chans := rfl
@[simp] theorem State.setOutcome_menus (s : State) (o : LoadOutcome) : (s.setOutcome o).menus = s.menus := rfl
@[simp] theorem State.setOutcome_claims (s : State) (o : LoadOutcome) : (s.setOutcome o).claims = s.claims := rfl
@[simp] theorem State.setOutcome_inputs (s : State) (o : LoadOutcome) : (s.setOutcome o).inputs = s.inputs := rfl
@[simp] theorem State.setOutcome_idle (s : State) (o : LoadOutcome) : (s.setOutcome o).idle = s.idle := rfl
@[simp] theorem State.setOutcome_feedback (s : State) (o : LoadOutcome) : (s.setOutcome o).feedback = s.feedback := rfl
@[simp] theorem State.setOutcome_log (s : State) (o : LoadOutcome) : (s.setOutcome o).log = s.log := rfl
@[simp] theorem State.setOutcome_requests (s : State) (o : LoadOutcome) : (s.setOutcome o).requests = s.requests := rfl
@[simp] theorem State.setOutcome_locks (s : State) (o : LoadOutcome) : (s.setOutcome o).locks = s.locks := rfl
@[simp] theorem State.setOutcome_mem (s : State) (o : LoadOutcome) : (s.setOutcome o).mem = s.mem := rfl
@[simp] theorem State.setOutcome_work (s : State) (o : LoadOutcome) : (s.setOutcome o).work = s.work := rfl
@[simp] theorem State.setOutcome_busFault (s : State) (o : LoadOutcome) : (s.setOutcome o).busFault = s.busFault := rfl
@[simp] theorem State.setOutcome_outside (s : State) (o : LoadOutcome) : (s.setOutcome o).outside = s.outside := rfl
@[simp] theorem State.setOutcome_ticks (s : State) (o : LoadOutcome) : (s.setOutcome o).ticks = s.ticks := rfl
@[simp] theorem State.setOutcome_choices (s : State) (o : LoadOutcome) : (s.setOutcome o).choices = s.choices := rfl
@[simp] theorem State.setOutcome_chan (s : State) (o : LoadOutcome) (d : Chan) : (s.setOutcome o).chan d = s.chan d := rfl
@[simp] theorem State.setOutcome_menu (s : State) (o : LoadOutcome) (d : Chan) : (s.setOutcome o).menu d = s.menu d := rfl
@[simp] theorem State.setOutcome_tables (s : State) (o : LoadOutcome) : (s.setOutcome o).tables = s.tables := rfl
@[simp] theorem State.setOutcome_config (s : State) (o : LoadOutcome) : (s.setOutcome o).config = s.config := rfl
@[simp] theorem State.setOutcome_chanConfig (s : State) (o : LoadOutcome) (d : Chan) : (s.setOutcome o).chanConfig d = s.chanConfig d := rfl
@[simp] theorem State.setOutcome_area (s : State) (o : LoadOutcome) (j : Nat) : (s.setOutcome o).area j = s.area j := rfl
@[simp] theorem State.setOutcome_outcome (s : State) (o : LoadOutcome) : (s.setOutcome o).loader.outcome = o := rfl
@[simp] theorem State.setOutcome_loads (s : State) (o : LoadOutcome) : (s.setOutcome o).loader.loads = s.loader.loads := rfl

/-! ### chooseBoth -/

@[simp] theorem State.chooseBoth_pending (s : State) : (s.chooseBoth).pending = s.pending := rfl
@[simp] theorem State.chooseBoth_regs (s : State) : (s.chooseBoth).regs = s.regs := rfl
@[simp] theorem State.chooseBoth_beam (s : State) : (s.chooseBoth).beam = s.beam := rfl
@[simp] theorem State.chooseBoth_chans (s : State) : (s.chooseBoth).chans = s.chans := rfl
@[simp] theorem State.chooseBoth_menus (s : State) : (s.chooseBoth).menus = s.menus := rfl
@[simp] theorem State.chooseBoth_claims (s : State) : (s.chooseBoth).claims = s.claims := rfl
@[simp] theorem State.chooseBoth_inputs (s : State) : (s.chooseBoth).inputs = s.inputs := rfl
@[simp] theorem State.chooseBoth_idle (s : State) : (s.chooseBoth).idle = s.idle := rfl
@[simp] theorem State.chooseBoth_loader (s : State) : (s.chooseBoth).loader = s.loader := rfl
@[simp] theorem State.chooseBoth_log (s : State) : (s.chooseBoth).log = s.log := rfl
@[simp] theorem State.chooseBoth_requests (s : State) : (s.chooseBoth).requests = s.requests := rfl
@[simp] theorem State.chooseBoth_locks (s : State) : (s.chooseBoth).locks = s.locks := rfl
@[simp] theorem State.chooseBoth_mem (s : State) : (s.chooseBoth).mem = s.mem := rfl
@[simp] theorem State.chooseBoth_work (s : State) : (s.chooseBoth).work = s.work := rfl
@[simp] theorem State.chooseBoth_busFault (s : State) : (s.chooseBoth).busFault = s.busFault := rfl
@[simp] theorem State.chooseBoth_outside (s : State) : (s.chooseBoth).outside = s.outside := rfl
@[simp] theorem State.chooseBoth_ticks (s : State) : (s.chooseBoth).ticks = s.ticks := rfl
@[simp] theorem State.chooseBoth_choices (s : State) : (s.chooseBoth).choices = s.choices := rfl
@[simp] theorem State.chooseBoth_chan (s : State) (d : Chan) : (s.chooseBoth).chan d = s.chan d := rfl
@[simp] theorem State.chooseBoth_menu (s : State) (d : Chan) : (s.chooseBoth).menu d = s.menu d := rfl
@[simp] theorem State.chooseBoth_tables (s : State) : (s.chooseBoth).tables = s.tables := rfl
@[simp] theorem State.chooseBoth_config (s : State) : (s.chooseBoth).config = s.config := rfl
@[simp] theorem State.chooseBoth_chanConfig (s : State) (d : Chan) : (s.chooseBoth).chanConfig d = s.chanConfig d := rfl
@[simp] theorem State.chooseBoth_area (s : State) (j : Nat) : (s.chooseBoth).area j = s.area j := rfl

/-! ### setLock -/

@[simp] theorem State.setLock_pending (s : State) (c : Chan) (g : Nat) (v : Bool) : (s.setLock c g v).pending = s.pending := rfl
@[simp] theorem State.setLock_regs (s : State) (c : Chan) (g : Nat) (v : Bool) : (s.setLock c g v).regs = s.regs := rfl
@[simp] theorem State.setLock_beam (s : State) (c : Chan) (g : Nat) (v : Bool) : (s.setLock c g v).beam = s.beam := rfl
@[simp] theorem State.setLock_chans (s : State) (c : Chan) (g : Nat) (v : Bool) : (s.setLock c g v).chans = s.chans := rfl
@[simp] theorem State.setLock_menus (s : State) (c : Chan) (g : Nat) (v : Bool) : (s.setLock c g v).menus = s.menus := rfl
@[simp] theorem State.setLock_claims (s : State) (c : Chan) (g : Nat) (v : Bool) : (s.setLock c g v).claims = s.claims := rfl
@[simp] theorem State.setLock_inputs (s : State) (c : Chan) (g : Nat) (v : Bool) : (s.setLock c g v).inputs = s.inputs := rfl
@[simp] theorem State.setLock_idle (s : State) (c : Chan) (g : Nat) (v : Bool) : (s.setLock c g v).idle = s.idle := rfl
@[simp] theorem State.setLock_feedback (s : State) (c : Chan) (g : Nat) (v : Bool) : (s.setLock c g v).feedback = s.feedback := rfl
@[simp] theorem State.setLock_loader (s : State) (c : Chan) (g : Nat) (v : Bool) : (s.setLock c g v).loader = s.loader := rfl
@[simp] theorem State.setLock_log (s : State) (c : Chan) (g : Nat) (v : Bool) : (s.setLock c g v).log = s.log := rfl
@[simp] theorem State.setLock_requests (s : State) (c : Chan) (g : Nat) (v : Bool) : (s.setLock c g v).requests = s.requests := rfl
@[simp] theorem State.setLock_mem (s : State) (c : Chan) (g : Nat) (v : Bool) : (s.setLock c g v).mem = s.mem := rfl
@[simp] theorem State.setLock_work (s : State) (c : Chan) (g : Nat) (v : Bool) : (s.setLock c g v).work = s.work := rfl
@[simp] theorem State.setLock_busFault (s : State) (c : Chan) (g : Nat) (v : Bool) : (s.setLock c g v).busFault = s.busFault := rfl
@[simp] theorem State.setLock_outside (s : State) (c : Chan) (g : Nat) (v : Bool) : (s.setLock c g v).outside = s.outside := rfl
@[simp] theorem State.setLock_ticks (s : State) (c : Chan) (g : Nat) (v : Bool) : (s.setLock c g v).ticks = s.ticks := rfl
@[simp] theorem State.setLock_choices (s : State) (c : Chan) (g : Nat) (v : Bool) : (s.setLock c g v).choices = s.choices := rfl
@[simp] theorem State.setLock_chan (s : State) (c : Chan) (g : Nat) (v : Bool) (d : Chan) : (s.setLock c g v).chan d = s.chan d := rfl
@[simp] theorem State.setLock_menu (s : State) (c : Chan) (g : Nat) (v : Bool) (d : Chan) : (s.setLock c g v).menu d = s.menu d := rfl
@[simp] theorem State.setLock_tables (s : State) (c : Chan) (g : Nat) (v : Bool) : (s.setLock c g v).tables = s.tables := rfl
@[simp] theorem State.setLock_config (s : State) (c : Chan) (g : Nat) (v : Bool) : (s.setLock c g v).config = s.config := rfl
@[simp] theorem State.setLock_chanConfig (s : State) (c : Chan) (g : Nat) (v : Bool) (d : Chan) : (s.setLock c g v).chanConfig d = s.chanConfig d := rfl
@[simp] theorem State.setLock_area (s : State) (c : Chan) (g : Nat) (v : Bool) (j : Nat) : (s.setLock c g v).area j = s.area j := rfl

/-! ### setLocks -/

@[simp] theorem State.setLocks_pending (s : State) (c : Chan) (v : Bool) : (s.setLocks c v).pending = s.pending := rfl
@[simp] theorem State.setLocks_regs (s : State) (c : Chan) (v : Bool) : (s.setLocks c v).regs = s.regs := rfl
@[simp] theorem State.setLocks_beam (s : State) (c : Chan) (v : Bool) : (s.setLocks c v).beam = s.beam := rfl
@[simp] theorem State.setLocks_chans (s : State) (c : Chan) (v : Bool) : (s.setLocks c v).chans = s.chans := rfl
@[simp] theorem State.setLocks_menus (s : State) (c : Chan) (v : Bool) : (s.setLocks c v).menus = s.menus := rfl
@[simp] theorem State.setLocks_claims (s : State) (c : Chan) (v : Bool) : (s.setLocks c v).claims = s.claims := rfl
@[simp] theorem State.setLocks_inputs (s : State) (c : Chan) (v : Bool) : (s.setLocks c v).inputs = s.inputs := rfl
@[simp] theorem State.setLocks_idle (s : State) (c : Chan) (v : Bool) : (s.setLocks c v).idle = s.idle := rfl
@[simp] theorem State.setLocks_feedback (s : State) (c : Chan) (v : Bool) : (s.setLocks c v).feedback = s.feedback := rfl
@[simp] theorem State.setLocks_loader (s : State) (c : Chan) (v : Bool) : (s.setLocks c v).loader = s.loader := rfl
@[simp] theorem State.setLocks_log (s : State) (c : Chan) (v : Bool) : (s.setLocks c v).log = s.log := rfl
@[simp] theorem State.setLocks_requests (s : State) (c : Chan) (v : Bool) : (s.setLocks c v).requests = s.requests := rfl
@[simp] theorem State.setLocks_mem (s : State) (c : Chan) (v : Bool) : (s.setLocks c v).mem = s.mem := rfl
@[simp] theorem State.setLocks_work (s : State) (c : Chan) (v : Bool) : (s.setLocks c v).work = s.work := rfl
@[simp] theorem State.setLocks_busFault (s : State) (c : Chan) (v : Bool) : (s.setLocks c v).busFault = s.busFault := rfl
@[simp] theorem State.setLocks_outside (s : State) (c : Chan) (v : Bool) : (s.setLocks c v).outside = s.outside := rfl
@[simp] theorem State.setLocks_ticks (s : State) (c : Chan) (v : Bool) : (s.setLocks c v).ticks = s.ticks := rfl
@[simp] theorem State.setLocks_choices (s : State) (c : Chan) (v : Bool) : (s.setLocks c v).choices = s.choices := rfl
@[simp] theorem State.setLocks_chan (s : State) (c : Chan) (v : Bool) (d : Chan) : (s.setLocks c v).chan d = s.chan d := rfl
@[simp] theorem State.setLocks_menu (s : State) (c : Chan) (v : Bool) (d : Chan) : (s.setLocks c v).menu d = s.menu d := rfl
@[simp] theorem State.setLocks_tables (s : State) (c : Chan) (v : Bool) : (s.setLocks c v).tables = s.tables := rfl
@[simp] theorem State.setLocks_config (s : State) (c : Chan) (v : Bool) : (s.setLocks c v).config = s.config := rfl
@[simp] theorem State.setLocks_chanConfig (s : State) (c : Chan) (v : Bool) (d : Chan) : (s.setLocks c v).chanConfig d = s.chanConfig d := rfl
@[simp] theorem State.setLocks_area (s : State) (c : Chan) (v : Bool) (j : Nat) : (s.setLocks c v).area j = s.area j := rfl

/-! ### openFrame -/

@[simp] theorem State.openFrame_pending (s : State) : (s.openFrame).pending = s.pending := rfl
@[simp] theorem State.openFrame_regs (s : State) : (s.openFrame).regs = s.regs := rfl
@[simp] theorem State.openFrame_menus (s : State) : (s.openFrame).menus = s.menus := rfl
@[simp] theorem State.openFrame_claims (s : State) : (s.openFrame).claims = s.claims := rfl
@[simp] theorem State.openFrame_inputs (s : State) : (s.openFrame).inputs = s.inputs := rfl
@[simp] theorem State.openFrame_idle (s : State) : (s.openFrame).idle = s.idle := rfl
@[simp] theorem State.openFrame_feedback (s : State) : (s.openFrame).feedback = s.feedback := rfl
@[simp] theorem State.openFrame_loader (s : State) : (s.openFrame).loader = s.loader := rfl
@[simp] theorem State.openFrame_log (s : State) : (s.openFrame).log = s.log := rfl
@[simp] theorem State.openFrame_requests (s : State) : (s.openFrame).requests = s.requests := rfl
@[simp] theorem State.openFrame_locks (s : State) : (s.openFrame).locks = s.locks := rfl
@[simp] theorem State.openFrame_mem (s : State) : (s.openFrame).mem = s.mem := rfl
@[simp] theorem State.openFrame_work (s : State) : (s.openFrame).work = s.work := rfl
@[simp] theorem State.openFrame_busFault (s : State) : (s.openFrame).busFault = s.busFault := rfl
@[simp] theorem State.openFrame_outside (s : State) : (s.openFrame).outside = s.outside := rfl
@[simp] theorem State.openFrame_ticks (s : State) : (s.openFrame).ticks = s.ticks := rfl
@[simp] theorem State.openFrame_choices (s : State) : (s.openFrame).choices = s.choices := rfl
@[simp] theorem State.openFrame_menu (s : State) (d : Chan) : (s.openFrame).menu d = s.menu d := rfl
@[simp] theorem State.openFrame_tables (s : State) : (s.openFrame).tables = s.tables := rfl
@[simp] theorem State.openFrame_config (s : State) : (s.openFrame).config = s.config := rfl
@[simp] theorem State.openFrame_chanConfig (s : State) (d : Chan) : (s.openFrame).chanConfig d = s.chanConfig d := rfl
@[simp] theorem State.openFrame_area (s : State) (j : Nat) : (s.openFrame).area j = s.area j := rfl

/-! ### Reads of what was written -/

@[simp] theorem Pair.get_set_same {α : Type} (p : Pair α) (c : Chan) (v : α) : (p.set c v).get c = v := by cases c <;> rfl

theorem Pair.get_set_ne {α : Type} (p : Pair α) {c d : Chan} (v : α) (h : d ≠ c) : (p.set c v).get d = p.get d := by
  cases c <;> cases d <;> first | rfl | exact absurd rfl h

@[simp] theorem Pair.get_set_other {α : Type} (p : Pair α) (c : Chan) (v : α) : (p.set c v).get (otherChan c) = p.get (otherChan c) := by
  cases c <;> rfl

@[simp] theorem Quad.get_set_same {α : Type} (q : Quad α) (t : TableId) (v : α) : (q.set t v).get t = v := by cases t <;> rfl

theorem Quad.get_set_ne {α : Type} (q : Quad α) {t u : TableId} (v : α) (h : u ≠ t) : (q.set t v).get u = q.get u := by
  cases t <;> cases u <;> first | rfl | exact absurd rfl h

@[simp] theorem otherChan_ne (c : Chan) : otherChan c ≠ c := by cases c <;> decide

@[simp] theorem State.chan_setChan (s : State) (c : Chan) (x : Channel) : (s.setChan c x).chan c = x := by cases c <;> rfl

theorem State.chan_setChan_ne (s : State) {c d : Chan} (x : Channel) (h : d ≠ c) : (s.setChan c x).chan d = s.chan d :=
  Pair.get_set_ne s.chans x h

@[simp] theorem State.chan_onChan (s : State) (c : Chan) (f : Channel → Channel) : (s.onChan c f).chan c = f (s.chan c) := by
  cases c <;> rfl

theorem State.chan_onChan_ne (s : State) {c d : Chan} (f : Channel → Channel) (h : d ≠ c) : (s.onChan c f).chan d = s.chan d :=
  Pair.get_set_ne s.chans _ h

@[simp] theorem State.chan_onChan_other (s : State) (c : Chan) (f : Channel → Channel) :
    (s.onChan c f).chan (otherChan c) = s.chan (otherChan c) := by cases c <;> rfl

@[simp] theorem State.chan_stopGlareTimers (s : State) (c : Chan) :
    s.stopGlareTimers.chan c = { s.chan c with glareTimer := none } := by cases c <;> rfl

@[simp] theorem State.menu_onMenu (s : State) (c : Chan) (f : Menu → Menu) : (s.onMenu c f).menu c = f (s.menu c) := by
  cases c <;> rfl

theorem State.menu_onMenu_ne (s : State) {c d : Chan} (f : Menu → Menu) (h : d ≠ c) : (s.onMenu c f).menu d = s.menu d :=
  Pair.get_set_ne s.menus _ h

@[simp] theorem State.regs_onRegs (s : State) (f : Registers → Registers) : (s.onRegs f).regs = f s.regs := rfl

@[simp] theorem State.entries_onClaims (s : State) (f : List Claim → List Claim) :
    (s.onClaims f).claims.entries = f s.claims.entries := rfl

@[simp] theorem State.asks_onClaims (s : State) (f : List Claim → List Claim) : (s.onClaims f).claims.asks = s.claims.asks := rfl

@[simp] theorem State.entries_setAsk (s : State) (c : Chan) (k : Option Ask) :
    (s.setAsk c k).claims.entries = s.claims.entries := rfl

@[simp] theorem State.asks_setAsk (s : State) (c : Chan) (k : Option Ask) :
    (s.setAsk c k).claims.asks = s.claims.asks.set c k := rfl

@[simp] theorem State.beam_openFrame (s : State) : s.openFrame.beam = s.beam.opened := rfl

@[simp] theorem State.chan_openFrame (s : State) (c : Chan) : s.openFrame.chan c = (s.chan c).opened := by cases c <;> rfl

theorem State.andThen_halted {s : State} (f : State → State) (h : s.regs.device = .halted) : s.andThen f = s := by
  simp [State.andThen, h]

theorem State.andThen_live {s : State} (f : State → State) (h : s.regs.device ≠ .halted) : s.andThen f = f s := by
  simp [State.andThen, h]

/-- A button pick whose record meets no bus error ends with its entry's fired flag set (R110). -/
theorem State.pickButton_live {s : State} {c : Chan} {k : Pick}
    (h : (s.buttonPick c k.tag k.trigger k.echo).regs.device ≠ .halted) :
    s.pickButton c k = (s.buttonPick c k.tag k.trigger k.echo).onChan c fun x =>
      { x with table := fireEntry x.table k.group k.tag } := State.andThen_live _ h

/-- In HALTED the reads in flight stand still (R183). -/
theorem State.advanceReads_halted {s : State} (h : s.regs.device = .halted) : s.advanceReads = s := State.andThen_halted _ h

end Sys2Proof.Machine
end

