-- ==== Sys2Proof/Laws/Memory.lean ====
section
/-! SUPPORT. The laws of host memory: a byte read after a write, and the canonical form kept by every write (log entry 8). -/

namespace Sys2Proof.Machine

theorem Memory.read_unlisted {m : List Host.Cell} {a : Nat} (h : ∀ x ∈ m, x.1 ≠ a) : Memory.read m a = Memory.unlisted := by
  induction m with
  | nil => rfl
  | cons x r ih =>
    obtain ⟨k, v⟩ := x
    have hk : k ≠ a := h (k, v) (by simp)
    simp [Memory.read, hk, ih fun y hy => h y (by simp [hy])]

theorem Memory.read_write_ne (m : List Host.Cell) {a b : Nat} (v : Byte) (h : b ≠ a) :
    Memory.read (Memory.write m a v) b = Memory.read m b := by
  induction m with
  | nil => by_cases hv : v = Memory.unlisted <;> simp [Memory.write, Memory.read, hv, Ne.symm h]
  | cons x r ih =>
    obtain ⟨k, w⟩ := x
    unfold Memory.write
    split
    · split <;> simp [Memory.read, Ne.symm h]
    · split
      · rename_i hak
        subst hak
        split <;> simp [Memory.read, Ne.symm h]
      · simp [Memory.read, ih]

theorem Memory.read_write_same {m : List Host.Cell} (a : Nat) (v : Byte) (h : Memory.wf m) :
    Memory.read (Memory.write m a v) a = v := by
  induction m with
  | nil => by_cases hv : v = Memory.unlisted <;> simp [Memory.write, Memory.read, hv]
  | cons x r ih =>
    obtain ⟨k, w⟩ := x
    obtain ⟨hs, hn⟩ := h
    rw [List.pairwise_cons] at hs
    unfold Memory.write
    split
    · rename_i hak
      split
      · rename_i hv
        rw [hv]
        refine Memory.read_unlisted fun y hy => ?_
        rcases List.mem_cons.1 hy with rfl | hy
        · simp; omega
        · have := hs.1 y hy
          simp at this
          omega
      · simp [Memory.read]
    · split
      · rename_i hak
        subst hak
        split
        · rename_i hv
          rw [hv]
          refine Memory.read_unlisted fun y hy => ?_
          have := hs.1 y hy
          simp at this
          omega
        · simp [Memory.read]
      · rename_i hne
        simp only [Memory.read]
        rw [if_neg (fun e => hne e.symm)]
        exact ih ⟨hs.2, fun y hy => hn y (by simp [hy])⟩

/-- A byte read after a byte is written. -/
theorem Memory.read_write {m : List Host.Cell} (a b : Nat) (v : Byte) (h : Memory.wf m) :
    Memory.read (Memory.write m a v) b = if b = a then v else Memory.read m b := by
  by_cases hb : b = a
  · rw [if_pos hb, hb, Memory.read_write_same a v h]
  · rw [if_neg hb, Memory.read_write_ne m v hb]

theorem Memory.mem_write {m : List Host.Cell} {a : Nat} {v : Byte} {x : Host.Cell} (h : x ∈ Memory.write m a v) :
    x = (a, v) ∨ x ∈ m := by
  induction m with
  | nil =>
    unfold Memory.write at h
    split at h <;> simp_all
  | cons y r ih =>
    obtain ⟨k, w⟩ := y
    unfold Memory.write at h
    split at h
    · split at h
      · exact .inr h
      · simpa using h
    · split at h
      · split at h
        · exact .inr (by simp [h])
        · rcases List.mem_cons.1 h with h | h
          · exact .inl h
          · exact .inr (by simp [h])
      · rcases List.mem_cons.1 h with h | h
        · exact .inr (by simp [h])
        · rcases ih h with h | h
          · exact .inl h
          · exact .inr (by simp [h])

/-- A byte written keeps the canonical form. -/
theorem Memory.wf_write {m : List Host.Cell} (a : Nat) (v : Byte) (h : Memory.wf m) : Memory.wf (Memory.write m a v) := by
  induction m with
  | nil =>
    by_cases hv : v = Memory.unlisted <;> simp [Memory.write, Memory.wf, hv]
  | cons x r ih =>
    obtain ⟨k, w⟩ := x
    have hw : w ≠ Memory.unlisted := h.2 (k, w) (by simp)
    have hs := List.pairwise_cons.1 h.1
    have hr : Memory.wf r := ⟨hs.2, fun y hy => h.2 y (by simp [hy])⟩
    unfold Memory.write
    split
    · rename_i hak
      split
      · exact h
      · rename_i hv
        refine ⟨List.pairwise_cons.2 ⟨fun y hy => ?_, h.1⟩, fun y hy => ?_⟩
        · rcases List.mem_cons.1 hy with rfl | hy
          · exact hak
          · exact Nat.lt_trans hak (hs.1 y hy)
        · rcases List.mem_cons.1 hy with rfl | hy
          · exact hv
          · exact h.2 y hy
    · rename_i hnlt
      split
      · rename_i hak
        subst hak
        split
        · exact hr
        · rename_i hv
          refine ⟨List.pairwise_cons.2 ⟨fun y hy => hs.1 y hy, hs.2⟩, fun y hy => ?_⟩
          rcases List.mem_cons.1 hy with rfl | hy
          · exact hv
          · exact hr.2 y hy
      · rename_i hne
        refine ⟨List.pairwise_cons.2 ⟨fun y hy => ?_, (ih hr).1⟩, fun y hy => ?_⟩
        · rcases Memory.mem_write hy with rfl | hy
          · simp; omega
          · exact hs.1 y hy
        · rcases List.mem_cons.1 hy with rfl | hy
          · exact hw
          · exact (ih hr).2 y hy

/-- Bytes written keep the canonical form. -/
theorem Memory.wf_writeBytes {m : List Host.Cell} (a : Nat) (bs : List Byte) (h : Memory.wf m) :
    Memory.wf (Memory.writeBytes m a bs) := by
  induction bs generalizing m a with
  | nil => exact h
  | cons b bs ih => exact ih (a + 1) (Memory.wf_write a b h)

theorem Memory.read_writeBytes_out (m : List Host.Cell) (a : Nat) (bs : List Byte) {b : Nat}
    (h : b < a ∨ a + bs.length ≤ b) : Memory.read (Memory.writeBytes m a bs) b = Memory.read m b := by
  induction bs generalizing m a with
  | nil => rfl
  | cons x xs ih =>
    simp only [List.length_cons] at h
    rw [Memory.writeBytes, ih _ _ (by omega), Memory.read_write_ne _ _ (by omega)]

theorem Memory.read_writeBytes_in {m : List Host.Cell} (a : Nat) (bs : List Byte) {i : Nat} (hw : Memory.wf m)
    (h : i < bs.length) : Memory.read (Memory.writeBytes m a bs) (a + i) = bs[i] := by
  induction bs generalizing m a i with
  | nil => simp at h
  | cons x xs ih =>
    rw [Memory.writeBytes]
    cases i with
    | zero =>
      rw [Memory.read_writeBytes_out _ _ _ (by omega), Nat.add_zero, Memory.read_write_same _ _ hw]
      rfl
    | succ j =>
      have hj : a + (j + 1) = (a + 1) + j := by omega
      rw [hj, ih (a + 1) (Memory.wf_write a x hw) (by simpa using h)]
      rfl

@[simp] theorem Memory.length_readBytes (m : List Host.Cell) (a n : Nat) : (Memory.readBytes m a n).length = n := by
  induction n generalizing a with
  | zero => rfl
  | succ n ih => simp [Memory.readBytes, ih]

theorem Memory.readBytes_congr {m m' : List Host.Cell} (a n : Nat)
    (h : ∀ k, a ≤ k → k < a + n → Memory.read m' k = Memory.read m k) :
    Memory.readBytes m' a n = Memory.readBytes m a n := by
  induction n generalizing a with
  | zero => rfl
  | succ n ih =>
    rw [Memory.readBytes, Memory.readBytes, h a (by omega) (by omega),
      ih (a + 1) fun k h1 h2 => h k (by omega) (by omega)]

/-- Bytes written are read back. -/
theorem Memory.readBytes_writeBytes {m : List Host.Cell} (a : Nat) (bs : List Byte) (hw : Memory.wf m) :
    Memory.readBytes (Memory.writeBytes m a bs) a bs.length = bs := by
  induction bs generalizing m a with
  | nil => rfl
  | cons x xs ih =>
    rw [List.length_cons, Memory.readBytes, Memory.writeBytes, ih (a + 1) (Memory.wf_write a x hw),
      Memory.read_writeBytes_out _ _ _ (by omega), Memory.read_write_same _ _ hw]

/-- Bytes read clear of bytes written. -/
theorem Memory.readBytes_writeBytes_out (m : List Host.Cell) (a b n : Nat) (bs : List Byte)
    (h : b + n ≤ a ∨ a + bs.length ≤ b) : Memory.readBytes (Memory.writeBytes m a bs) b n = Memory.readBytes m b n :=
  Memory.readBytes_congr b n fun k _ _ => Memory.read_writeBytes_out m a bs (by omega)

/-! ### The common area -/

theorem State.wf_writeArea {s : State} (o : Nat) (bs : List Byte) (h : Memory.wf s.mem) : Memory.wf (s.writeArea o bs).mem :=
  Memory.wf_writeBytes _ bs h

theorem State.read_writeArea_out (s : State) (o : Nat) (bs : List Byte) {k : Nat}
    (h : k < s.area o ∨ s.area o + bs.length ≤ k) : Memory.read (s.writeArea o bs).mem k = Memory.read s.mem k :=
  Memory.read_writeBytes_out _ _ bs h

theorem State.read_writeArea_in {s : State} (o : Nat) (bs : List Byte) {i : Nat} (h : Memory.wf s.mem) (hi : i < bs.length) :
    Memory.read (s.writeArea o bs).mem (s.area (o + i)) = bs[i] := by
  have e : s.area (o + i) = s.area o + i := by simp [State.area, Nat.add_assoc]
  rw [e]
  exact Memory.read_writeBytes_in _ bs h hi

theorem State.areaBytes_writeArea {s : State} (o : Nat) (bs : List Byte) (h : Memory.wf s.mem) :
    (s.writeArea o bs).areaBytes o bs.length = bs := Memory.readBytes_writeBytes _ bs h

theorem State.areaBytes_writeArea_out (s : State) (o p n : Nat) (bs : List Byte) (h : p + n ≤ o ∨ o + bs.length ≤ p) :
    (s.writeArea o bs).areaBytes p n = s.areaBytes p n :=
  Memory.readBytes_writeBytes_out _ _ _ _ bs (by simp only [State.area, State.writeArea]; omega)

/-! ### Fields -/

@[simp] theorem length_bytes16 (n : Nat) : (bytes16 n).length = 2 := rfl

@[simp] theorem length_bytes32 (n : Nat) : (bytes32 n).length = 4 := rfl

theorem ofBytes_bytes16 (n : Nat) : ofBytes (bytes16 n) = n % 65536 := by
  simp [bytes16, ofBytes]; omega

theorem ofBytes_bytes32 (n : Nat) : ofBytes (bytes32 n) = n % 4294967296 := by
  simp [bytes32, ofBytes]; omega

theorem length_channelStatus (x : Channel) (m : Menu) : (channelStatus x m).length = 16 := by simp [channelStatus]

theorem length_claimStatus (e : Option Claim) : (claimStatus e).length = 4 := by cases e <;> simp [claimStatus]

/-- The status section is 192 bytes (R172). -/
theorem length_statusImage (s : State) : (statusImage s).length = 192 := by
  simp [statusImage, length_channelStatus, List.length_flatMap, length_claimStatus]

end Sys2Proof.Machine
end

