-- ==== Sys2Proof/Laws/Log.lean ====
section
/-! SUPPORT. What an access, a write of the status section, an entry to HALTED and the placing of a record can do: one lemma for
each, which later proofs cite in place of its definition. -/

namespace Sys2Proof.Machine

/-! ### What the Log Writer and the status writes leave as it is -/

/-- `t` differs from `s` only where the Log Writer, a status write or a bus error they meet can reach: memory, the Log Writer, the
registers' causes, lost flags, fault kind and device state, the bus errors to come, and the glare timers that HALTED stops. -/
structure LogFrame (s t : State) : Prop where
  pending : t.pending = s.pending
  beam : t.beam = s.beam
  menus : t.menus = s.menus
  claims : t.claims = s.claims
  inputs : t.inputs = s.inputs
  idle : t.idle = s.idle
  feedback : t.feedback = s.feedback
  loader : t.loader = s.loader
  requests : t.requests = s.requests
  locks : t.locks = s.locks
  work : t.work = s.work
  outside : t.outside = s.outside
  ticks : t.ticks = s.ticks
  choices : t.choices = s.choices
  areaBase : t.regs.areaBase = s.regs.areaBase
  run : t.regs.run = s.regs.run
  enables : t.regs.enables = s.regs.enables
  chan : ∀ c, t.chan c = { s.chan c with glareTimer := (t.chan c).glareTimer }
  device : t.regs.device = s.regs.device ∨ t.regs.device = .halted
  wf : Memory.wf s.mem → Memory.wf t.mem

/-- As `LogFrame`, where no bus error waits: no channel, no fault kind and no device state is reached. -/
structure QuietFrame (s t : State) : Prop extends LogFrame s t where
  chans : t.chans = s.chans
  same : t.regs.device = s.regs.device
  kind : t.regs.faultKind = s.regs.faultKind
  quiet : t.busFault = s.busFault

theorem LogFrame.refl (s : State) : LogFrame s s :=
  ⟨rfl, rfl, rfl, rfl, rfl, rfl, rfl, rfl, rfl, rfl, rfl, rfl, rfl, rfl, rfl, rfl, rfl, fun _ => rfl, .inl rfl, id⟩

theorem LogFrame.trans {s t u : State} (h : LogFrame s t) (k : LogFrame t u) : LogFrame s u where
  pending := k.pending.trans h.pending
  beam := k.beam.trans h.beam
  menus := k.menus.trans h.menus
  claims := k.claims.trans h.claims
  inputs := k.inputs.trans h.inputs
  idle := k.idle.trans h.idle
  feedback := k.feedback.trans h.feedback
  loader := k.loader.trans h.loader
  requests := k.requests.trans h.requests
  locks := k.locks.trans h.locks
  work := k.work.trans h.work
  outside := k.outside.trans h.outside
  ticks := k.ticks.trans h.ticks
  choices := k.choices.trans h.choices
  areaBase := k.areaBase.trans h.areaBase
  run := k.run.trans h.run
  enables := k.enables.trans h.enables
  chan := fun c => by rw [k.chan c, h.chan c]
  device := by
    rcases k.device with e | e
    · rw [e]; exact h.device
    · exact .inr e
  wf := fun w => k.wf (h.wf w)

theorem QuietFrame.refl (s : State) : QuietFrame s s := ⟨LogFrame.refl s, rfl, rfl, rfl, rfl⟩

theorem QuietFrame.trans {s t u : State} (h : QuietFrame s t) (k : QuietFrame t u) : QuietFrame s u :=
  ⟨h.toLogFrame.trans k.toLogFrame, k.chans.trans h.chans, k.same.trans h.same, k.kind.trans h.kind, k.quiet.trans h.quiet⟩

theorem QuietFrame.chanEq {s t : State} (h : QuietFrame s t) (c : Chan) : t.chan c = s.chan c := by
  simp [State.chan, h.chans]

/-- What a frame says of the tables in use. -/
theorem LogFrame.config {s t : State} (h : LogFrame s t) : t.config = s.config := by simp [State.config, h.loader]

theorem LogFrame.tables {s t : State} (h : LogFrame s t) : t.tables = s.tables := by simp [State.tables, h.loader]

theorem LogFrame.chanConfig {s t : State} (h : LogFrame s t) (c : Chan) : t.chanConfig c = s.chanConfig c := by
  simp [State.chanConfig, h.config]

theorem LogFrame.menu {s t : State} (h : LogFrame s t) (c : Chan) : t.menu c = s.menu c := by simp [State.menu, h.menus]

theorem LogFrame.area {s t : State} (h : LogFrame s t) (o : Nat) : t.area o = s.area o := by simp [State.area, h.areaBase]

theorem LogFrame.mode {s t : State} (h : LogFrame s t) (c : Chan) : (t.chan c).mode = (s.chan c).mode := by rw [h.chan c]

/-! ### Accesses -/

/-- An access changes nothing but the bus error to come. -/
theorem State.access_eq (s : State) (a : BusAccess) : (s.access a).2 = { s with busFault := (s.access a).2.busFault } := by
  unfold State.access
  split
  · rfl
  · split
    · split <;> rfl
    · rfl

theorem State.access_quiet {s : State} (h : s.busQuiet) (a : BusAccess) : s.access a = (none, s) := by
  unfold State.busQuiet at h
  simp [State.access, h]

theorem State.access_frame (s : State) (a : BusAccess) : LogFrame s (s.access a).2 := by
  rw [State.access_eq]
  exact ⟨rfl, rfl, rfl, rfl, rfl, rfl, rfl, rfl, rfl, rfl, rfl, rfl, rfl, rfl, rfl, rfl, rfl, fun _ => rfl, .inl rfl, id⟩

theorem State.writeArea_frame (s : State) (o : Nat) (bs : List Byte) : QuietFrame s (s.writeArea o bs) :=
  ⟨⟨rfl, rfl, rfl, rfl, rfl, rfl, rfl, rfl, rfl, rfl, rfl, rfl, rfl, rfl, rfl, rfl, rfl, fun _ => rfl, .inl rfl,
    State.wf_writeArea o bs⟩, rfl, rfl, rfl, rfl⟩

/-! ### The status section -/

theorem State.tryStatus_quiet {s : State} (h : s.busQuiet) : s.tryStatus = (true, s.writeArea 0x40 (statusImage s)) := by
  simp [State.tryStatus, State.access_quiet h]

/-- Where no bus error waits, a status write is made whole (R181). -/
theorem State.writeStatus_quiet {s : State} (h : s.busQuiet) : s.writeStatus = (true, s.writeArea 0x40 (statusImage s)) := by
  simp [State.writeStatus, State.tryStatus_quiet h]

theorem State.tryStatus_frame (s : State) : LogFrame s s.tryStatus.2 := by
  unfold State.tryStatus
  have f := s.access_frame .statusWrite
  generalize s.access .statusWrite = p at f ⊢
  obtain ⟨e, t⟩ := p
  cases e with
  | none => exact f.trans (t.writeArea_frame _ _).toLogFrame
  | some w => exact f.trans (t.writeArea_frame _ _).toLogFrame

/-- Entry to HALTED: the fault kind, FAULT, the stopped glare timers and the status section (R177, R183). -/
theorem State.halt_frame (s : State) (k : FaultKind) : LogFrame s (s.halt k) := by
  unfold State.halt
  refine LogFrame.trans ?_ (State.tryStatus_frame _)
  exact ⟨rfl, rfl, rfl, rfl, rfl, rfl, rfl, rfl, rfl, rfl, rfl, rfl, rfl, rfl, rfl, rfl, rfl,
    fun c => by cases c <;> rfl, .inr rfl, id⟩

theorem State.halt_device (s : State) (k : FaultKind) : (s.halt k).regs.device = .halted := by
  unfold State.halt
  rcases (State.tryStatus_frame (s.stopGlareTimers.onRegs fun g =>
    { g with device := .halted, faultKind := k, causes := { g.causes with fault := true } })).device with e | e
  · exact e
  · exact e

theorem State.busErrorMet_frame (s : State) : LogFrame s s.busErrorMet := by
  unfold State.busErrorMet
  split
  · exact s.halt_frame _
  · exact s.halt_frame _
  · exact ⟨rfl, rfl, rfl, rfl, rfl, rfl, rfl, rfl, rfl, rfl, rfl, rfl, rfl, rfl, rfl, rfl, rfl, fun _ => rfl, .inl rfl, id⟩
  · exact LogFrame.refl s

theorem State.writeStatus_frame (s : State) : LogFrame s s.writeStatus.2 := by
  unfold State.writeStatus
  have f := s.tryStatus_frame
  generalize s.tryStatus = p at f ⊢
  obtain ⟨b, t⟩ := p
  cases b with
  | true => exact f
  | false => exact f.trans t.busErrorMet_frame

/-! ### Records -/

/-- Words 1 to 15 of a slot are 60 bytes. -/
theorem length_wordsAfter (r : Record) (n : Nat) : ((r.wordsAfter n).flatMap bytes32).length = 60 := by
  have h : (r.wordsAfter n).length = 15 := by
    obtain ⟨src, fr, nt, body⟩ := r
    cases body <;> simp [Record.wordsAfter, Body.words, loftWords, tagWords] <;> split <;> simp
  rw [List.length_flatMap]
  simp [h]

theorem State.writeRecord_frame (s : State) (r : Record) : LogFrame s (s.writeRecord r) := by
  unfold State.writeRecord
  have f := s.access_frame .slotWrite
  generalize s.access .slotWrite = p at f ⊢
  obtain ⟨e, t⟩ := p
  cases e with
  | some w => exact f.trans ((t.writeArea_frame _ _).toLogFrame.trans (State.busErrorMet_frame _))
  | none =>
    refine f.trans (LogFrame.trans ((t.writeArea_frame (slotOffset s.log.nextSlot + 4)
      ((r.wordsAfter s.log.recordNumber).flatMap bytes32)).trans
        (State.writeArea_frame _ (slotOffset s.log.nextSlot) (bytes32 r.word0))).toLogFrame ?_)
    exact ⟨rfl, rfl, rfl, rfl, rfl, rfl, rfl, rfl, rfl, rfl, rfl, rfl, rfl, rfl, rfl, rfl, rfl, fun _ => rfl, .inl rfl, id⟩

/-- Where no bus error waits, a record is written whole (R163). -/
theorem State.writeRecord_quiet {s : State} (h : s.busQuiet) (r : Record) :
    s.writeRecord r =
      { (s.writeArea (slotOffset s.log.nextSlot + 4) ((r.wordsAfter s.log.recordNumber).flatMap bytes32)).writeArea
          (slotOffset s.log.nextSlot) (bytes32 r.word0) with
        log := { s.log with nextSlot := (s.log.nextSlot + 1) % 64, recordNumber := (s.log.recordNumber + 1) % 65536 }
        regs := { s.regs with causes := { s.regs.causes with log := true } } } := by
  simp [State.writeRecord, State.access_quiet h, State.onRegs]

theorem State.writeRecord_quietFrame {s : State} (h : s.busQuiet) (r : Record) : QuietFrame s (s.writeRecord r) := by
  rw [State.writeRecord_quiet h]
  exact ⟨⟨rfl, rfl, rfl, rfl, rfl, rfl, rfl, rfl, rfl, rfl, rfl, rfl, rfl, rfl, rfl, rfl, rfl, fun _ => rfl, .inl rfl,
    fun w => State.wf_writeArea (s := s.writeArea _ _) _ _ (State.wf_writeArea _ _ w)⟩, rfl, rfl, rfl, rfl⟩

theorem State.joinHold_quietFrame (s : State) (r : Record) : QuietFrame s (s.joinHold r) := by
  unfold State.joinHold
  dsimp only
  split <;>
    exact ⟨⟨rfl, rfl, rfl, rfl, rfl, rfl, rfl, rfl, rfl, rfl, rfl, rfl, rfl, rfl, rfl, rfl, rfl, fun _ => rfl, .inl rfl, id⟩,
      rfl, rfl, rfl, rfl⟩

theorem State.drainSteps_frame (n : Nat) (s : State) : LogFrame s (State.drainSteps n s) := by
  induction n generalizing s with
  | zero => exact LogFrame.refl s
  | succ n ih =>
    unfold State.drainSteps
    split
    · exact LogFrame.refl s
    · rename_i r rest _
      have f := s.access_frame .slotRead
      generalize s.access .slotRead = p at f ⊢
      obtain ⟨e, t⟩ := p
      cases e with
      | some w => exact f.trans t.busErrorMet_frame
      | none =>
        dsimp only
        split
        · refine f.trans (LogFrame.trans (t := { t with log := { t.log with held := rest } }) ?_ ?_)
          · exact ⟨rfl, rfl, rfl, rfl, rfl, rfl, rfl, rfl, rfl, rfl, rfl, rfl, rfl, rfl, rfl, rfl, rfl, fun _ => rfl,
              .inl rfl, id⟩
          · refine LogFrame.trans (State.writeRecord_frame _ r) ?_
            unfold State.andThen
            split
            · exact LogFrame.refl _
            · exact ih _
        · exact f

theorem State.drain_frame (s : State) : LogFrame s s.drain := State.drainSteps_frame _ s

theorem State.placeDrained_frame (s : State) (r : Record) : LogFrame s (s.placeDrained r) := by
  unfold State.placeDrained
  split
  · have f := s.access_frame .slotRead
    generalize s.access .slotRead = p at f ⊢
    obtain ⟨e, t⟩ := p
    cases e with
    | some w => exact f.trans t.busErrorMet_frame
    | none =>
      dsimp only
      split
      · exact f.trans (t.writeRecord_frame r)
      · exact f.trans (t.joinHold_quietFrame r).toLogFrame
  · exact (s.joinHold_quietFrame r).toLogFrame

/-- What the arrival of a record can reach (R164). -/
theorem State.place_frame (s : State) (r : Record) : LogFrame s (s.place r) := by
  unfold State.place State.andThen
  split
  · exact s.drain_frame
  · exact s.drain_frame.trans (State.placeDrained_frame _ r)

theorem State.record_frame (s : State) (c : Chan) (n : Notes) (b : Body) : LogFrame s (s.record c n b) := s.place_frame _

/-! ### Records where no bus error waits -/

theorem State.drainSteps_quiet (n : Nat) {s : State} (h : s.busQuiet) : QuietFrame s (State.drainSteps n s) := by
  induction n generalizing s with
  | zero => exact QuietFrame.refl s
  | succ n ih =>
    unfold State.drainSteps
    split
    · exact QuietFrame.refl s
    · rename_i r rest _
      rw [State.access_quiet h]
      dsimp only
      split
      · refine QuietFrame.trans (t := { s with log := { s.log with held := rest } }) ?_ ?_
        · exact ⟨⟨rfl, rfl, rfl, rfl, rfl, rfl, rfl, rfl, rfl, rfl, rfl, rfl, rfl, rfl, rfl, rfl, rfl, fun _ => rfl,
            .inl rfl, id⟩, rfl, rfl, rfl, rfl⟩
        · have q : ({ s with log := { s.log with held := rest } } : State).busQuiet := h
          have f := State.writeRecord_quietFrame q r
          refine f.trans ?_
          unfold State.andThen
          split
          · exact QuietFrame.refl _
          · exact ih (f.quiet.trans q)
      · exact QuietFrame.refl s

theorem State.drain_quiet {s : State} (h : s.busQuiet) : QuietFrame s s.drain := State.drainSteps_quiet _ h

theorem State.placeDrained_quiet {s : State} (h : s.busQuiet) (r : Record) : QuietFrame s (s.placeDrained r) := by
  unfold State.placeDrained
  split
  · rw [State.access_quiet h]
    dsimp only
    split
    · exact State.writeRecord_quietFrame h r
    · exact s.joinHold_quietFrame r
  · exact s.joinHold_quietFrame r

/-- What the arrival of a record can reach where no bus error waits. -/
theorem State.place_quiet {s : State} (h : s.busQuiet) (r : Record) : QuietFrame s (s.place r) := by
  have f := State.drain_quiet h
  unfold State.place State.andThen
  split
  · exact f
  · exact f.trans (State.placeDrained_quiet (f.quiet.trans h) r)

theorem State.record_quiet {s : State} (h : s.busQuiet) (c : Chan) (n : Notes) (b : Body) : QuietFrame s (s.record c n b) :=
  State.place_quiet h _

theorem State.drain_empty {s : State} (h : s.log.held = []) : s.drain = s := by simp [State.drain, h, State.drainSteps]

/-- A record that arrives with the holds empty and the next slot FREE is written there at once (R163, R164). -/
theorem State.place_ready {s : State} (h : s.busQuiet) (hd : s.regs.device ≠ .halted) (hl : s.logReady) (r : Record) :
    s.place r = s.writeRecord r := by
  unfold State.place
  rw [State.drain_empty hl.1, State.andThen_live _ hd, State.placeDrained, hl.1]
  simp [State.access_quiet h, hl.2]

end Sys2Proof.Machine
end

