-- ==== Sys2Proof/WellFormed.lean ====
section
/-! DEFINITION. Which commands are the rows they are named for: the operands whose ranges the types of Syntax.lean do not
already carry. A command outside these ranges still has a meaning (a CONTROL write is decided by its value alone). -/

namespace Sys2Proof

/-- The operand ranges of the rows. RUN SET, STOP and SOFT RESET are the CONTROL writes that R177 and R178 name by the value of
bits 0 and 1; an UNKNOWN REQUEST has a code outside 1 to 15 (R180); a bus error falls within the 48 words of a status write or
the 16 words of a slot write (R181, R163). -/
def Instr.wellFormed : Instr → Bool
  | .unknownRequest code _ => decide (code.toNat = 0 ∨ 15 < code.toNat)
  | .runSet v => v.getLsbD 0 && !v.getLsbD 1
  | .stop v => !v.getLsbD 0 && !v.getLsbD 1
  | .softReset v => v.getLsbD 1
  | .interruptEnablesWrite v => !v.getLsbD 1
  | .busError e =>
    match e.access with
    | .statusWrite => decide (e.words < 48)
    | .slotWrite => decide (e.words < 16)
    | .formatRead | .revisionRead _ | .tableRead _ | .requestRead | .slotRead => decide (e.words = 0)
  | .frameStart | .vectorBegin _ | .vectorEnd | .frameEnd | .frameClockSaturation | .strike _ | .lineLeavesActiveLevel _
  | .glareOnset _ | .glareReminder _ | .echoDelivery _ | .switchInputChange _ _ | .debounceCompletion _ | .idleTimeout
  | .miss _ | .askDecision | .lost _ | .tooFew _ | .confirmExpiry _ | .blinkPeriodEnd | .readEnd _ | .lockGroup _
  | .unlockGroup _ | .lockAll _ | .unlockAll _ | .claim _ | .release _ | .suspendTrack _ | .resumeTrack _ | .calibrate _
  | .cancelCalibration _ | .openSheet _ | .homeMenu _ | .collect _ | .endCollection _ | .injectStrike _ | .attentionWrite
  | .statusWrite _ | .areaBaseWrite _ | .powerOnReset => true

end Sys2Proof
end

