-- ==== Sys2Proof/Laws/PerInstr.lean ====
section
/-! SUPPORT. The operand ranges of each command as a statement of its own (family Ranged): what it takes for a command to be the row
it is named for. -/

namespace Sys2Proof.Laws

/-- One more than the most words that an access transfers before the word that meets an error (R163, R181). -/
def busWords : BusAccess → Nat
  | .statusWrite => 48
  | .slotWrite => 16
  | .formatRead => 1
  | .revisionRead _ => 1
  | .tableRead _ => 1
  | .requestRead => 1
  | .slotRead => 1

/-- The ranges of a command's operands that their types do not carry (R163, R177, R178, R180, R181). -/
def inRange : Instr → Prop
  | .frameStart => True
  | .vectorBegin _ => True
  | .vectorEnd => True
  | .frameEnd => True
  | .frameClockSaturation => True
  | .strike _ => True
  | .lineLeavesActiveLevel _ => True
  | .glareOnset _ => True
  | .glareReminder _ => True
  | .echoDelivery _ => True
  | .switchInputChange _ _ => True
  | .debounceCompletion _ => True
  | .idleTimeout => True
  | .miss _ => True
  | .askDecision => True
  | .lost _ => True
  | .tooFew _ => True
  | .confirmExpiry _ => True
  | .blinkPeriodEnd => True
  | .readEnd _ => True
  | .lockGroup _ => True
  | .unlockGroup _ => True
  | .lockAll _ => True
  | .unlockAll _ => True
  | .claim _ => True
  | .release _ => True
  | .suspendTrack _ => True
  | .resumeTrack _ => True
  | .calibrate _ => True
  | .cancelCalibration _ => True
  | .openSheet _ => True
  | .homeMenu _ => True
  | .collect _ => True
  | .endCollection _ => True
  | .injectStrike _ => True
  | .unknownRequest code _ => code.toNat ∉ List.range' 1 15
  | .attentionWrite => True
  | .runSet v => v.getLsbD 0 = true ∧ v.getLsbD 1 = false
  | .stop v => v.getLsbD 0 = false ∧ v.getLsbD 1 = false
  | .softReset v => v.getLsbD 1 = true
  | .interruptEnablesWrite v => v.getLsbD 1 = false
  | .statusWrite _ => True
  | .areaBaseWrite _ => True
  | .powerOnReset => True
  | .busError e => e.words < busWords e.access

/-- A command is well formed exactly when its operands lie in the ranges of its row. -/
def Ranged.Statement (i : Instr) : Prop := i.wellFormed = true ↔ inRange i

theorem Ranged.frameStart : Ranged.Statement .frameStart := ⟨fun _ => trivial, fun _ => rfl⟩

theorem Ranged.vectorBegin (v : VectorNote) : Ranged.Statement (.vectorBegin v) := ⟨fun _ => trivial, fun _ => rfl⟩

theorem Ranged.vectorEnd : Ranged.Statement .vectorEnd := ⟨fun _ => trivial, fun _ => rfl⟩

theorem Ranged.frameEnd : Ranged.Statement .frameEnd := ⟨fun _ => trivial, fun _ => rfl⟩

theorem Ranged.frameClockSaturation : Ranged.Statement .frameClockSaturation := ⟨fun _ => trivial, fun _ => rfl⟩

theorem Ranged.strike (c : Chan) : Ranged.Statement (.strike c) := ⟨fun _ => trivial, fun _ => rfl⟩

theorem Ranged.lineLeavesActiveLevel (c : Chan) : Ranged.Statement (.lineLeavesActiveLevel c) := ⟨fun _ => trivial, fun _ => rfl⟩

theorem Ranged.glareOnset (c : Chan) : Ranged.Statement (.glareOnset c) := ⟨fun _ => trivial, fun _ => rfl⟩

theorem Ranged.glareReminder (c : Chan) : Ranged.Statement (.glareReminder c) := ⟨fun _ => trivial, fun _ => rfl⟩

theorem Ranged.echoDelivery (c : Chan) : Ranged.Statement (.echoDelivery c) := ⟨fun _ => trivial, fun _ => rfl⟩

theorem Ranged.switchInputChange (n : Fin 8) (p : Bool) : Ranged.Statement (.switchInputChange n p) := ⟨fun _ => trivial, fun _ => rfl⟩

theorem Ranged.debounceCompletion (n : Fin 8) : Ranged.Statement (.debounceCompletion n) := ⟨fun _ => trivial, fun _ => rfl⟩

theorem Ranged.idleTimeout : Ranged.Statement .idleTimeout := ⟨fun _ => trivial, fun _ => rfl⟩

theorem Ranged.miss (c : Chan) : Ranged.Statement (.miss c) := ⟨fun _ => trivial, fun _ => rfl⟩

theorem Ranged.askDecision : Ranged.Statement .askDecision := ⟨fun _ => trivial, fun _ => rfl⟩

theorem Ranged.lost (c : Chan) : Ranged.Statement (.lost c) := ⟨fun _ => trivial, fun _ => rfl⟩

theorem Ranged.tooFew (c : Chan) : Ranged.Statement (.tooFew c) := ⟨fun _ => trivial, fun _ => rfl⟩

theorem Ranged.confirmExpiry (c : Chan) : Ranged.Statement (.confirmExpiry c) := ⟨fun _ => trivial, fun _ => rfl⟩

theorem Ranged.blinkPeriodEnd : Ranged.Statement .blinkPeriodEnd := ⟨fun _ => trivial, fun _ => rfl⟩

theorem Ranged.readEnd (t : TableId) : Ranged.Statement (.readEnd t) := ⟨fun _ => trivial, fun _ => rfl⟩

theorem Ranged.lockGroup (r : RequestArgs) : Ranged.Statement (.lockGroup r) := ⟨fun _ => trivial, fun _ => rfl⟩

theorem Ranged.unlockGroup (r : RequestArgs) : Ranged.Statement (.unlockGroup r) := ⟨fun _ => trivial, fun _ => rfl⟩

theorem Ranged.lockAll (r : RequestArgs) : Ranged.Statement (.lockAll r) := ⟨fun _ => trivial, fun _ => rfl⟩

theorem Ranged.unlockAll (r : RequestArgs) : Ranged.Statement (.unlockAll r) := ⟨fun _ => trivial, fun _ => rfl⟩

theorem Ranged.claim (r : RequestArgs) : Ranged.Statement (.claim r) := ⟨fun _ => trivial, fun _ => rfl⟩

theorem Ranged.release (r : RequestArgs) : Ranged.Statement (.release r) := ⟨fun _ => trivial, fun _ => rfl⟩

theorem Ranged.suspendTrack (r : RequestArgs) : Ranged.Statement (.suspendTrack r) := ⟨fun _ => trivial, fun _ => rfl⟩

theorem Ranged.resumeTrack (r : RequestArgs) : Ranged.Statement (.resumeTrack r) := ⟨fun _ => trivial, fun _ => rfl⟩

theorem Ranged.calibrate (r : RequestArgs) : Ranged.Statement (.calibrate r) := ⟨fun _ => trivial, fun _ => rfl⟩

theorem Ranged.cancelCalibration (r : RequestArgs) : Ranged.Statement (.cancelCalibration r) := ⟨fun _ => trivial, fun _ => rfl⟩

theorem Ranged.openSheet (r : RequestArgs) : Ranged.Statement (.openSheet r) := ⟨fun _ => trivial, fun _ => rfl⟩

theorem Ranged.homeMenu (r : RequestArgs) : Ranged.Statement (.homeMenu r) := ⟨fun _ => trivial, fun _ => rfl⟩

theorem Ranged.collect (r : RequestArgs) : Ranged.Statement (.collect r) := ⟨fun _ => trivial, fun _ => rfl⟩

theorem Ranged.endCollection (r : RequestArgs) : Ranged.Statement (.endCollection r) := ⟨fun _ => trivial, fun _ => rfl⟩

theorem Ranged.injectStrike (r : RequestArgs) : Ranged.Statement (.injectStrike r) := ⟨fun _ => trivial, fun _ => rfl⟩

theorem Ranged.unknownRequest (code : BitVec 8) (r : RequestArgs) : Ranged.Statement (.unknownRequest code r) := by
  simp only [Ranged.Statement, Instr.wellFormed, inRange, decide_eq_true_eq, List.mem_range'_1]
  omega

theorem Ranged.attentionWrite : Ranged.Statement .attentionWrite := ⟨fun _ => trivial, fun _ => rfl⟩

theorem Ranged.runSet (v : Word) : Ranged.Statement (.runSet v) := by simp [Ranged.Statement, Instr.wellFormed, inRange]

theorem Ranged.stop (v : Word) : Ranged.Statement (.stop v) := by simp [Ranged.Statement, Instr.wellFormed, inRange]

theorem Ranged.softReset (v : Word) : Ranged.Statement (.softReset v) := by simp [Ranged.Statement, Instr.wellFormed, inRange]

theorem Ranged.interruptEnablesWrite (v : Word) : Ranged.Statement (.interruptEnablesWrite v) := by simp [Ranged.Statement, Instr.wellFormed, inRange]

theorem Ranged.statusWrite (v : Word) : Ranged.Statement (.statusWrite v) := ⟨fun _ => trivial, fun _ => rfl⟩

theorem Ranged.areaBaseWrite (v : Word) : Ranged.Statement (.areaBaseWrite v) := ⟨fun _ => trivial, fun _ => rfl⟩

theorem Ranged.powerOnReset : Ranged.Statement .powerOnReset := ⟨fun _ => trivial, fun _ => rfl⟩

theorem Ranged.busError (e : BusError) : Ranged.Statement (.busError e) := by
  obtain ⟨a, n, w⟩ := e
  cases a <;> simp [Ranged.Statement, Instr.wellFormed, inRange, busWords]

end Sys2Proof.Laws
end

