-- ==== Sys2Proof/Laws/Requests.lean ====
section
/-! SUPPORT. What a request can do: the cell read back as it was placed, the taking of a request, and its completion. -/

namespace Sys2Proof.Machine

/-! ### A frame end that owes nothing -/

/-- With no frame end in progress there is nothing to settle. -/
theorem State.settle_quiet {s : State} (h : s.frameQuiet) : s.settle = s := by
  have e : s.work.active = false := by rw [h.1]; rfl
  simp [State.settle, e]

theorem State.stepAsks_quiet {s : State} (h : s.frameQuiet) : s.stepAsks = s := by simp [State.stepAsks, h.2]

theorem State.settleAll_quiet {s : State} (h : s.frameQuiet) : s.settleAll = s := by
  rw [State.settleAll, State.settle_quiet h, State.andThen]
  split
  · rfl
  · exact State.stepAsks_quiet h

/-- Outside RUNNING nothing is settled. -/
theorem State.settleAll_idle {s : State} (h : s.regs.device ≠ .running) : s.settleAll = s := by
  simp [State.settleAll, State.settle, State.stepAsks, h, State.andThen]

/-! ### The cell -/

theorem State.placeCell_frame (s : State) (code : BitVec 8) (r : RequestArgs) : QuietFrame s (s.placeCell code r) :=
  (((s.writeArea_frame 0x21 [code, r.channel]).trans (State.writeArea_frame _ 0x24 (bytes16 r.first.toNat))).trans
    (State.writeArea_frame _ 0x28 (bytes32 r.second.toNat))).trans (State.writeArea_frame _ 0x20 [r.seq])

/-- Placing a request writes the bytes of its cell alone. -/
theorem State.read_placeCell (s : State) (code : BitVec 8) (r : RequestArgs) {k : Nat}
    (h : k < s.area 0x20 ∨ s.area 0x2C ≤ k) : Memory.read (s.placeCell code r).mem k = Memory.read s.mem k := by
  simp only [State.area] at h
  unfold State.placeCell
  rw [State.read_writeArea_out, State.read_writeArea_out, State.read_writeArea_out, State.read_writeArea_out]
  all_goals simp only [State.area, State.writeArea_regs, List.length_cons, List.length_nil, length_bytes16, length_bytes32]
  all_goals omega

/-- A request is read back from its cell as it was placed (header table of section 12.2). -/
theorem State.readCell_placeCell {s : State} (code : BitVec 8) (r : RequestArgs) (h : Memory.wf s.mem) :
    (s.placeCell code r).readCell = (code, r) := by
  have w1 := State.wf_writeArea 0x21 [code, r.channel] h
  have w2 := State.wf_writeArea 0x24 (bytes16 r.first.toNat) w1
  have w3 := State.wf_writeArea 0x28 (bytes32 r.second.toNat) w2
  have b0 : Memory.read (s.placeCell code r).mem ((s.placeCell code r).area 0x20) = r.seq :=
    State.read_writeArea_in 0x20 [r.seq] (i := 0) w3 (by simp)
  have b1 : Memory.read (s.placeCell code r).mem ((s.placeCell code r).area 0x21) = code := by
    unfold State.placeCell
    rw [State.read_writeArea_out, State.read_writeArea_out, State.read_writeArea_out]
    · exact State.read_writeArea_in 0x21 [code, r.channel] (i := 0) h (by simp)
    all_goals simp [State.area]
  have b2 : Memory.read (s.placeCell code r).mem ((s.placeCell code r).area 0x22) = r.channel := by
    unfold State.placeCell
    rw [State.read_writeArea_out, State.read_writeArea_out, State.read_writeArea_out]
    · exact State.read_writeArea_in 0x21 [code, r.channel] (i := 1) h (by simp)
    all_goals simp [State.area]
  have f1 : (s.placeCell code r).areaBytes 0x24 2 = bytes16 r.first.toNat := by
    unfold State.placeCell
    rw [State.areaBytes_writeArea_out _ _ _ _ _ (by simp), State.areaBytes_writeArea_out _ _ _ _ _ (by simp)]
    exact State.areaBytes_writeArea 0x24 (bytes16 r.first.toNat) w1
  have f2 : (s.placeCell code r).areaBytes 0x28 4 = bytes32 r.second.toNat := by
    unfold State.placeCell
    rw [State.areaBytes_writeArea_out _ _ _ _ _ (by simp)]
    exact State.areaBytes_writeArea 0x28 (bytes32 r.second.toNat) w2
  have e1 : r.first.toNat % 65536 = r.first.toNat := Nat.mod_eq_of_lt r.first.isLt
  have e2 : r.second.toNat % 4294967296 = r.second.toNat := Nat.mod_eq_of_lt r.second.isLt
  unfold State.readCell
  simp only [Nat.add_zero, Nat.reduceAdd, b0, b1, b2, f1, f2, ofBytes_bytes16, ofBytes_bytes32, e1, e2, BitVec.ofNat_toNat,
    BitVec.setWidth_eq]

/-! ### Taking and completion -/

/-- A request that the host makes is taken where the device is not HALTED, no bus error waits, no frame end is in progress, and its
sequence is new (R179). -/
theorem State.request_taken {s : State} (code : BitVec 8) (r : RequestArgs) (hd : s.regs.device ≠ .halted) (hb : s.busQuiet)
    (hf : s.frameQuiet) (hw : Memory.wf s.mem) (h0 : r.seq ≠ 0) (hn : r.seq ≠ s.requests.lastTaken) :
    s.request code r =
      (({ s.placeCell code r with requests := { s.requests with lastTaken := r.seq } } : State).dispatch code r).1.andThen
        fun t => t.complete
          (({ s.placeCell code r with requests := { s.requests with lastTaken := r.seq } } : State).dispatch code r).2 := by
  have fr := s.placeCell_frame code r
  have q : (s.placeCell code r).frameQuiet := ⟨fr.work.trans hf.1, by rw [fr.claims]; exact hf.2⟩
  have b : (s.placeCell code r).busQuiet := fr.quiet.trans hb
  have d : (s.placeCell code r).regs.device ≠ .halted := by rw [fr.same]; exact hd
  unfold State.request State.attention
  rw [if_neg d, State.settle_quiet q, State.andThen_live _ d]
  unfold State.sample
  rw [State.access_quiet b]
  dsimp only
  rw [State.readCell_placeCell code r hw]
  unfold State.takeCell
  rw [fr.requests, if_neg (fun e => e.elim h0 hn)]

/-- A request whose sequence is 0 or the last one taken is not taken (R179). -/
theorem State.request_stale {s : State} (code : BitVec 8) (r : RequestArgs) (hd : s.regs.device ≠ .halted) (hb : s.busQuiet)
    (hf : s.frameQuiet) (hw : Memory.wf s.mem) (h : r.seq = 0 ∨ r.seq = s.requests.lastTaken) :
    s.request code r = s.placeCell code r := by
  have fr := s.placeCell_frame code r
  have q : (s.placeCell code r).frameQuiet := ⟨fr.work.trans hf.1, by rw [fr.claims]; exact hf.2⟩
  have b : (s.placeCell code r).busQuiet := fr.quiet.trans hb
  have d : (s.placeCell code r).regs.device ≠ .halted := by rw [fr.same]; exact hd
  unfold State.request State.attention
  rw [if_neg d, State.settle_quiet q, State.andThen_live _ d]
  unfold State.sample
  rw [State.access_quiet b]
  dsimp only
  rw [State.readCell_placeCell code r hw]
  unfold State.takeCell
  rw [fr.requests, if_pos h]

/-- The state whose values a completion's status write shows: the outcome set and the highlights chosen anew. -/
def State.completed (t : State) (o : ReqOutcome) : State :=
  ({ t with requests := { t.requests with lastOutcome := o } } : State).chooseBoth

/-- The completion of a request where no bus error waits (R180). -/
theorem State.complete_quiet {t : State} (h : t.busQuiet) (o : ReqOutcome) :
    t.complete o = ((t.completed o).writeArea 0x40 (statusImage (t.completed o))).onRegs fun g =>
      { g with causes := { g.causes with request := true } } := by
  have q : (t.completed o).busQuiet := h
  unfold State.complete
  rw [show ({ t with requests := { t.requests with lastOutcome := o } } : State).chooseBoth = t.completed o from rfl,
    State.writeStatus_quiet q]

/-! ### A request as a whole -/

/-- The state in which a request is decided: its cell placed, its sequence the last taken one (R179). -/
def State.takenAt (s : State) (code : BitVec 8) (r : RequestArgs) : State :=
  { s with mem := (s.placeCell code r).mem, requests := { s.requests with lastTaken := r.seq } }

/-- Placing a request changes memory alone. -/
theorem State.placeCell_eq (s : State) (code : BitVec 8) (r : RequestArgs) :
    s.placeCell code r = { s with mem := (s.placeCell code r).mem } := by
  unfold State.placeCell State.writeArea
  rfl

/-- What the completion of a request with outcome `o` makes of the state `u` that its block's work left: the sequence and the outcome,
the highlight entries, the status section and REQUEST. -/
structure Completed (u t : State) (o : ReqOutcome) : Prop where
  requests : t.requests = ⟨u.requests.lastTaken, o⟩
  regs : t.regs = { u.regs with causes := { u.regs.causes with request := true } }
  pending : t.pending = u.pending
  beam : t.beam = u.beam
  chans : t.chans = u.chans
  menus : t.menus = u.menus
  claims : t.claims = u.claims
  inputs : t.inputs = u.inputs
  idle : t.idle = u.idle
  feedback : t.feedback = { u.feedback with entry := t.feedback.entry }
  loader : t.loader = u.loader
  log : t.log = u.log
  locks : t.locks = u.locks
  work : t.work = u.work
  busFault : t.busFault = u.busFault
  outside : t.outside = u.outside
  ticks : t.ticks = u.ticks
  choices : t.choices = u.choices
  shown : t.areaBytes 0x40 2 = [u.requests.lastTaken, BitVec.ofNat 8 o.code]
  elsewhere : ∀ k, k < u.area 0x40 ∨ u.area 0x100 ≤ k → Memory.read t.mem k = Memory.read u.mem k

theorem statusImage_head (s : State) :
    (statusImage s).take 2 = [s.requests.lastTaken, BitVec.ofNat 8 s.requests.lastOutcome.code] := by
  have e : BitVec.ofNat 8 s.requests.lastTaken.toNat = s.requests.lastTaken := by simp
  conv => rhs; rw [← e]
  rfl

/-- A completion where no bus error waits does that. -/
theorem State.complete_completed {u : State} (hb : u.busQuiet) (hw : Memory.wf u.mem) (o : ReqOutcome) :
    Completed u (u.complete o) o := by
  rw [State.complete_quiet hb]
  have img := State.areaBytes_writeArea (s := u.completed o) 0x40 (statusImage (u.completed o)) hw
  have out := fun k (h : k < u.area 0x40 ∨ u.area 0x100 ≤ k) =>
    State.read_writeArea_out (u.completed o) 0x40 (statusImage (u.completed o)) (k := k)
      (by rw [length_statusImage]; simpa [State.area, State.completed, State.chooseBoth, State.choose] using h)
  rw [length_statusImage] at img
  have head := congrArg (List.take 2) img
  rw [statusImage_head] at head
  generalize statusImage (u.completed o) = bs at img out head ⊢
  exact ⟨rfl, rfl, rfl, rfl, rfl, rfl, rfl, rfl, rfl, rfl, rfl, rfl, rfl, rfl, rfl, rfl, rfl, rfl, head, out⟩

/-- A request that is taken, decided and completed (R179, R180): what it leaves of the state that its block's work left. -/
theorem State.request_completed {s u : State} {code : BitVec 8} {r : RequestArgs} {o : ReqOutcome} (hd : s.regs.device ≠ .halted)
    (hb : s.busQuiet) (hf : s.frameQuiet) (hw : Memory.wf s.mem) (h0 : r.seq ≠ 0) (hn : r.seq ≠ s.requests.lastTaken)
    (he : (s.takenAt code r).dispatch code r = (u, o)) (ud : u.regs.device ≠ .halted) (ub : u.busQuiet)
    (uw : Memory.wf u.mem) : Completed u (s.request code r) o := by
  have q : ({ s.placeCell code r with requests := { s.requests with lastTaken := r.seq } } : State) = s.takenAt code r := by
    rw [State.placeCell_eq]
    rfl
  rw [State.request_taken code r hd hb hf hw h0 hn, q, he]
  have e : (u.andThen fun t => t.complete o) = u.complete o := State.andThen_live _ ud
  change Completed u (u.andThen fun t => t.complete o) o
  rw [e]
  exact State.complete_completed ub uw o

/-- What the state in which a request is decided keeps. -/
theorem State.takenAt_mem {s : State} (code : BitVec 8) (r : RequestArgs) (h : Memory.wf s.mem) :
    Memory.wf (s.takenAt code r).mem := (s.placeCell_frame code r).wf h

end Sys2Proof.Machine
end

