-- ==== Sys2Proof/Tests/Slice0.lean ====
section
/-! SUPPORT. Tests. The smoke tests of WellFormed; checks against the worked cases of spec/ (each test names its section); and for
every statement with hypotheses a theorem `test_met_<name>` that shows states and operands which meet them. -/

namespace Sys2Proof.Tests

open Sys2Proof.Machine

/-! ### WellFormed -/

/-- The fields of a request in a test. -/
def args (seq channel : BitVec 8) (first : BitVec 16) (second : BitVec 32) : RequestArgs := ⟨seq, channel, first, second⟩

theorem test_wellFormed_unknownRequest : (Instr.unknownRequest 5 (args 1 0 0 0)).wellFormed = false ∧
    (Instr.unknownRequest 16 (args 1 0 0 0)).wellFormed = true := by decide

theorem test_wellFormed_runSet : (Instr.runSet 2).wellFormed = false ∧ (Instr.runSet 0xF1).wellFormed = true := by decide

theorem test_wellFormed_stop : (Instr.stop 1).wellFormed = false ∧ (Instr.stop 0).wellFormed = true := by decide

theorem test_wellFormed_softReset : (Instr.softReset 1).wellFormed = false ∧ (Instr.softReset 3).wellFormed = true := by decide

theorem test_wellFormed_enables : (Instr.interruptEnablesWrite 2).wellFormed = false ∧
    (Instr.interruptEnablesWrite 0x11).wellFormed = true := by decide

theorem test_wellFormed_busError : (Instr.busError ⟨.statusWrite, 0, 48⟩).wellFormed = false ∧
    (Instr.busError ⟨.slotWrite, 0, 16⟩).wellFormed = false ∧ (Instr.busError ⟨.requestRead, 0, 1⟩).wellFormed = false ∧
    (Instr.busError ⟨.statusWrite, 0, 47⟩).wellFormed = true := by decide

/-- No row of the table has bits, so no word spells a command. -/
theorem test_decode_none : decodeTableWord 32 0 = none := rfl

/-! ### Arithmetic of the worked cases -/

/-- Section 3.1 of 00_scope.md: 130.5 rounds to 131 and −0.5 to −1. -/
theorem test_rounding : roundDiv 261 2 = 131 ∧ roundDiv (-1) 2 = -1 ∧ roundDiv (-5) 2 = -3 := by decide

/-- Section 4.8: the buttock line drawn leftward. -/
theorem test_leftward_vector :
    hitOn (⟨0x450, 7, 31, ⟨2000, 1000⟩, ⟨1995, 997⟩, 50000, some 50006⟩, 50006, 0, 50003) =
      ⟨7, 0x450, 31, 2048, ⟨1997, 998⟩, 0, ⟨2000, 1000⟩⟩ := by decide

/-- Section 4.7: the tie on offset, F1 in the third case and F2 in the second. -/
theorem test_offsets : offsetAndTime 82064 82000 82060 = (5, 82060) ∧ offsetAndTime 82064 82070 82150 = (6, 82070) := by decide

/-- Section 4.9: views 2, 5 and 3, and a view without a scale. -/
theorem test_loft_points : throughView ⟨1024, 512, 45000, 0, 2500, 2500⟩ ⟨1000, 512⟩ = some ⟨44766, 0⟩ ∧
    throughView ⟨0, 0, 1900000, -10000, 200000, 200000⟩ ⟨3000, 100⟩ = some ⟨2000000, 68125⟩ ∧
    throughView ⟨2048, 512, 0, 0, -2500, 2500⟩ ⟨2100, 700⟩ = some ⟨-508, 1836⟩ ∧
    throughView ⟨0, 0, 0, 0, 0, 2500⟩ ⟨1, 1⟩ = none := by decide

/-- R74: the tags of the guard spans at their edges. -/
theorem test_guard_spans : guards .upper 12 61440 = true ∧ guards .upper 12 61439 = false ∧ guards .lower 0 0 = true ∧
    guards .lower 0 1 = false ∧ guards .all 0 7 = true ∧ guards .none 16 7 = false := by decide

/-- R34: the defaults of the cable classes, and an override. -/
theorem test_delays : cableDelay 0 = 48 ∧ cableDelay 3 = 240 ∧
    configuredDelay { defaultChannelConfig .a with delayOverride := 131 } = 131 := by decide

/-- R129: a press in an earlier frame is earlier, across the wrap of the frame number. -/
theorem test_press_order : pressAFirst 3 ⟨.tip, 3, 10⟩ ⟨.tip, 65535, 500⟩ = false ∧
    pressAFirst 3 ⟨.tip, 3, 10⟩ ⟨.tip, 3, 10⟩ = true := by decide

/-! ### States of the tests -/

/-- A RUNNING device in an OPEN frame, both channels OFF. -/
def base : State :=
  { State.reset with regs := { Registers.reset with run := true, device := .running }, beam := ⟨true, 100, 7, [], false, false⟩ }

/-- The same with channel A in a state. -/
def withA (f : Channel → Channel) : State := base.onChan .a f

/-- Channel A in WATCH with the default delay of cable class 0. -/
def watch : State := withA fun x => { x with mode := .watch, delay := 48 }

/-- A state with an installed configuration. -/
def configured (cfg : Configuration) (s : State) : State :=
  { s with loader := { s.loader with tables := { s.loader.tables with config := some cfg } } }

/-- The default configuration with a contest outcome for channel A. -/
def contesting (rule : ContestRule) : Configuration :=
  { defaultConfiguration with chans := ⟨{ defaultChannelConfig .a with contest := rule }, defaultChannelConfig .b⟩ }

/-- An ended trail entry. -/
def drawn : Entry := ⟨9, 5, 0, ⟨10, 10⟩, ⟨20, 20⟩, 40, some 60⟩

/-- The entry being drawn. -/
def drawing : Entry := ⟨11, 5, 1, ⟨10, 10⟩, ⟨20, 20⟩, 70, none⟩

/-- Channel A tracking an element, its claim held. -/
def tracking : State :=
  (withA fun x => { x with mode := .tracking, tracked := some (5, 9), centre := ⟨2000, 1500⟩ }).onClaims fun _ =>
    [⟨9, .pen .a⟩]

/-- A pick of an element, and its ask. -/
def ask (tag : Nat) (frame clock : Nat) : Ask := ⟨⟨5, tag, ⟨30, 30⟩, 0, 2048, 3, .tip, false⟩, ⟨.tip, frame, clock⟩⟩

/-- Channel A in PRESSED with its ask made and a frame end in progress. -/
def asking : State :=
  let t := withA fun x => { x with mode := .pressed, press := some ⟨.tip, 7, 20⟩ }
  { t with
    beam := { t.beam with isOpen := false }, work := { FrameWork.none with active := true }
    claims := ⟨[], ⟨some (ask 9 7 20), none⟩, some []⟩ }

/-- A frame end in progress in which channel A owes a step. -/
def owing (o : Owed) (s : State) : State :=
  { s with beam := { s.beam with isOpen := false }, work := { FrameWork.none with active := true, owed := ⟨some o, none⟩ } }

/-- An input of the Console Switch Unit that has left its debounced level. -/
def moving (n : Fin 8) (s : State) : State := s.setInput n ⟨true, false, some 5⟩

/-- A device in STOPPED whose area holds the format number 1. -/
def formatted : State := State.reset.writeArea 0x00 [1, 0, 0, 0]

/-- All four tables WAITING at revision 0 in LOADING. -/
def loaded : State :=
  { State.reset with
    regs := { Registers.reset with run := true, device := .loading }
    loader := { Loader.reset with
      loads := ⟨.waiting 0 (.config defaultConfiguration) 0, .waiting 0 (.group []) 0, .waiting 0 (.view []) 0,
        .waiting 0 (.menu [emptySheet]) 0⟩ } }

/-- A CALIBRATING channel with two measurements whose budget is spent. -/
def fewMeasures : State :=
  withA fun x => { x with mode := .calibrating, dotTag := some 0xF0, measures := [⟨60, false⟩, ⟨64, true⟩] }

/-- A button armed on channel A. -/
def armedA (s : State) : State :=
  { s.onMenu .a fun m => { m with armed := some (0, 2), countdown := 5 } with feedback := { s.feedback with blink := some 3 } }

/-- A record of channel A that is no TRACK record, and a TRACK record. -/
def plainRecord : Record := ⟨.chan .a, 7, {}, .glare 0⟩

/-- A TRACK record of channel A. -/
def trackRecord : Record := ⟨.chan .a, 7, {}, .track 5 9 ⟨1, 1⟩ none 1⟩

/-- A state whose next slot is FILLED, with records held. -/
def filled (held : List Record) : State := { base.writeArea 0x1800 [1] with log := ⟨0, 5, held⟩ }

/-! ### Small checks of the commands -/

/-- The state a command leaves. -/
def after (o : Host.Outcome State Fault Refusal) : State :=
  match o with
  | .next t => t
  | .fault _ => State.reset
  | .refused _ => State.reset

/-- Section 12.4: setting RUN with the format number 1 leads to LOADING. -/
theorem test_runSet_loads : (after (exec (.runSet 0x11) formatted)).regs.device = .loading := by decide

/-- R177: a format number other than 1 halts the part with fault kind FORMAT. -/
theorem test_runSet_format : (after (exec (.runSet 1) State.reset)).regs.faultKind = .format := by decide

/-- R172: the low twelve bits of AREA BASE are taken as 0. -/
theorem test_areaBase : (after (exec (.areaBaseWrite 0x12345678) State.reset)).regs.areaBase = 0x12345000 := by decide

/-- R2: coordinates above 4095 are clamped. -/
theorem test_vectorBegin_clamps :
    (after (exec (.vectorBegin ⟨9, 5, 3, 5000, 4095, 0, 1⟩) base)).beam.trail =
      [⟨9, 5, 3, ⟨4095, 4095⟩, ⟨0, 1⟩, 100, none⟩] := by decide

/-- R76: group 61 cannot be locked; group 60 can. -/
theorem test_lockGroup : (after (exec (.lockGroup (args 1 0 61 0)) State.reset)).requests = ⟨1, .outOfRange⟩ ∧
    (after (exec (.lockGroup (args 1 0 60 0)) State.reset)).locked .a 60 = true := by decide

/-- R180: a request addressed to an OFF channel gives WRONG STATE; one to a channel 2 gives UNKNOWN. -/
theorem test_openSheet_off : (after (exec (.openSheet (args 1 0 0 0)) State.reset)).requests.lastOutcome = .wrongState ∧
    (after (exec (.openSheet (args 1 2 0 0)) State.reset)).requests.lastOutcome = .unknown := by decide

/-- R101: a count of 17 is out of range, 16 is not. -/
theorem test_collect_range : (after (exec (.collect (args 1 0 17 0)) watch)).requests.lastOutcome = .outOfRange ∧
    (after (exec (.collect (args 1 0 16 0)) watch)).chans.a.collection = some ⟨16, 16, []⟩ := by decide

/-- R29: a T above 16,777,215 is out of range. -/
theorem test_injectStrike_range :
    (after (exec (.injectStrike (args 1 0 0 0x1000000)) watch)).requests.lastOutcome = .outOfRange ∧
      (after (exec (.injectStrike (args 1 0 0 0xFFFFFF)) watch)).chans.a.echo = .scheduled 0xFFFFFF := by decide

/-- R48: a strike whose compensated time is below 0 is BLANK. -/
theorem test_strike_blank :
    (after (exec (.strike .a) { watch with beam := { watch.beam with clock := 30 } })).chans.a.results = [⟨.blank, false⟩] := by decide

/-- R26 and R20: a bus error on the SEQUENCE END record, after the TRACK END record and before GLARE or OFF, leaves the channel TRACKING
with its echo pending, its cross on and its highlight on the tracked element (R153). -/
theorem test_glare_cut :
    let s := withA fun x =>
      { x with mode := .tracking, tracked := some (5, 9), glareTimer := some 61, echo := .scheduled 3, collection := some ⟨2, 2, []⟩ }
    let t : State := { s with busFault := some ⟨.slotWrite, 2, 0⟩ }
    ∀ u ∈ [after (exec (.glareOnset .a) t), t.disableChan .a], u.regs.device = .halted ∧ u.chans.a.mode = .tracking ∧
      u.claims.entries = [] ∧ u.chans.a.echo = .scheduled 3 ∧ u.chans.a.collection.isSome ∧ u.log.recordNumber = 1 ∧
      u.highlight .a = ⟨5, 9, .steady⟩ ∧ (u.cross .a).on = true := by decide

/-- R155: a glare onset whose record meets a bus error leaves no highlight entry. -/
theorem test_glare_chooses :
    let s := withA fun x => { x with mode := .watch, glareTimer := some 61 }
    let t : State := { s with
      feedback := { s.feedback with entry := ⟨some (5, 9), none⟩ }, busFault := some ⟨.slotRead, 1, 0⟩ }
    (after (exec (.glareOnset .a) t)).regs.device = .halted ∧ (after (exec (.glareOnset .a) t)).feedback.entry.a = none := by
  decide

/-- R153: a bus error on the DISARMED record of an OPEN SHEET leaves both the highlight and the shown sheet as they were. -/
theorem test_disarm_cut :
    let s := armedA watch
    let t := after (exec (.openSheet (args 1 0 0 0)) { s with busFault := some ⟨.slotWrite, 0, 0⟩ })
    t.regs.device = .halted ∧ t.highlight .a = s.highlight .a ∧ t.shownSheet .a = s.shownSheet .a ∧ t.menus.a.armed.isSome := by
  decide

/-- R40: D becomes the middle value before the CALIBRATION record, so a bus error on that record leaves the new D. -/
theorem test_set_cut :
    let s := withA fun x => { x with mode := .calibrating, measures := [60, 64, 61, 62, 65, 63, 60, 64].map fun n => ⟨n, false⟩ }
    let t := { s with busFault := some ⟨.slotWrite, 0, 0⟩ : State }.calibrationFrame .a
    t.regs.device = .halted ∧ t.chans.a.delay = 63 ∧ t.chans.a.mode = .calibrating ∧ t.chans.a.lastCal = none := by decide

/-! ### What the hypotheses of the statements are met by -/

/-- The rest of a request's premises, for a state in which nothing is going on. -/
theorem accepts_of {s : State} (h : s.regs.device ≠ .halted ∧ s.busFault = none ∧ s.work = FrameWork.none ∧
    s.claims.asks = ⟨none, none⟩ ∧ Memory.wf s.mem ∧ s.requests.lastTaken = 0) (channel : BitVec 8) (first : BitVec 16)
    (second : BitVec 32) : s.accepts (args 1 channel first second) :=
  ⟨h.1, h.2.1, ⟨h.2.2.1, h.2.2.2.1⟩, h.2.2.2.2.1, by show (1 : BitVec 8) ≠ 0; decide,
    by show (1 : BitVec 8) ≠ s.requests.lastTaken; rw [h.2.2.2.2.2]; decide⟩

theorem test_met_StepRunsFrontCommand : ∃ (s : State) (c : Instr) (rest : List Instr), s.pending = c :: rest :=
  ⟨{ base with pending := [.vectorEnd, .frameEnd] }, .vectorEnd, [.frameEnd], rfl⟩

theorem test_met_StepTicksWhenIdle : base.pending = [] ∧ base.outside = [] ∧ base.dueEvent = none ∧
    base.regs.device = .running ∧ base.beam.isOpen = true ∧ State.reset.dueEvent = none ∧
    State.reset.regs.device ≠ .running := by
  refine ⟨rfl, rfl, ?_, rfl, rfl, ?_, by decide⟩
  · cases h : Config.channelBFirst base.choices <;> simp only [State.dueEvent, State.timerEvents, State.debounceEvents, State.inputOrder, h] <;> decide
  · cases h : Config.channelBFirst State.reset.choices <;> simp only [State.dueEvent, State.timerEvents, State.debounceEvents, State.inputOrder, h] <;> decide

theorem test_met_StepKeepsMemoryAndBase : ∃ s t : State, Memory.wf s.mem ∧ s.regs.law ∧ step s = .next t :=
  ⟨{ formatted with pending := [.claim (args 1 0 9 0)] }, _, by decide, rfl, rfl⟩

theorem test_met_StepKeepsTrailLaw : ∃ s t : State, s.trailInv ∧ step s = .next t :=
  ⟨{ base with pending := [.vectorEnd], beam := { base.beam with trail := [drawn, drawing] } }, _,
    ⟨by unfold Beam.law; decide, trivial, trivial⟩, rfl⟩

theorem test_met_StepKeepsStrikeLaw : ∃ s t : State, s.strikeInv ∧ step s = .next t :=
  ⟨{ watch with pending := [.strike .a] }, _,
    ⟨⟨by decide, by decide⟩, ⟨by decide, by decide⟩, fun _ => ⟨rfl, rfl⟩, by decide⟩, rfl⟩

theorem test_met_StepKeepsLogLaw : ∃ s t : State, s.log.law ∧ step s = .next t :=
  ⟨{ filled [plainRecord, trackRecord] with pending := [.frameStart] }, _,
    ⟨by decide, by decide, fun src => by cases src with | console => decide | chan c => cases c <;> decide⟩, rfl⟩

theorem test_met_StepKeepsClaimLaw : ∃ s t : State, s.claimInv ∧ step s = .next t := by
  refine ⟨{ tracking with pending := [.frameEnd] }, _, ⟨⟨by decide, by decide⟩, ⟨?_, ?_⟩, .inr ?_, .inr ?_⟩, rfl⟩
  · exact ⟨(5, 9), rfl, .inl rfl⟩
  · show penClaims _ _ = []
    decide
  all_goals exact ⟨fun h => absurd rfl h, fun h => absurd rfl h, nofun, nofun, nofun⟩

theorem test_met_StepKeepsMenuLaw : ∃ s t : State, s.menuInv ∧ step s = .next t :=
  ⟨{ armedA watch with pending := [.homeMenu (args 1 0 0 0)] }, _,
    ⟨⟨rfl, by decide⟩, ⟨rfl, by decide⟩, rfl, trivial, by decide, by decide, ⟨by decide, by decide⟩, trivial, trivial,
      trivial, trivial⟩, rfl⟩

theorem test_met_StepKeepsDelayRange : ∃ s t : State, s.delayInv ∧ step s = .next t :=
  ⟨{ fewMeasures with pending := [.strike .a] }, _,
    ⟨⟨by decide, by decide⟩, ⟨by decide, by decide⟩, ⟨by decide, by decide⟩, trivial, trivial, trivial, trivial⟩, rfl⟩

/-- Channel A with a qualification entry and a collection of which one tag remains. -/
def collecting : State := withA fun x =>
  { x with mode := .watch, table := [⟨5, 9, [some ⟨⟨1, 1⟩, 0, 0, 0, false⟩], false⟩], collection := some ⟨2, 1, [9]⟩ }

theorem test_met_StepKeepsTableAndCollectionLaws : ∃ s t : State,
    (∀ c, tableLaw (s.chan c).table ∧ s.collectInv c) ∧ step s = .next t :=
  ⟨{ collecting with pending := [.frameEnd] }, _,
    fun c => by
      cases c
      · exact ⟨⟨by decide, by decide, by decide⟩, ⟨by decide, by decide, by decide⟩, .inr (by decide)⟩
      · exact ⟨⟨by decide, by decide, by decide⟩, trivial, .inr (by decide)⟩, rfl⟩

/-- A HALTED device. -/
def halted : State := { watch with regs := { watch.regs with device := .halted, faultKind := .busError } }

theorem test_met_HaltedIsFrozen : ∃ (i : Instr) (s t : State), s.regs.device = .halted ∧ i.leavesHalted = false ∧
    exec i s = .next t := ⟨.strike .a, halted, _, rfl, rfl, rfl⟩

/-- A scheduled echo with no table WAITING, its frame OPEN. -/
theorem test_met_FrameStartOpensFrame_echo :
    let s := withA fun x => { x with mode := .watch, echo := .scheduled 0 }
    s.regs.device = .running ∧ (s.work = FrameWork.none ∧ s.claims.asks = ⟨none, none⟩) ∧ s.busFault = none ∧
      (∀ i ∈ allTables, (s.loader.loads.get i).waitingRevision = none) ∧ (s.chan .a).echo = .scheduled 0 ∧
      s.beam.isOpen = true := by decide

theorem test_met_FrameStartOpensFrame : base.regs.device = .running ∧ base.frameQuiet ∧ base.busQuiet ∧
    State.reset.regs.device = .stopped ∧ halted.regs.device = .halted := ⟨rfl, ⟨rfl, rfl⟩, rfl, rfl, rfl⟩

/-- A device in RUNNING with its frame CLOSED. -/
def closed : State := { base with beam := { base.beam with isOpen := false } }

theorem test_met_VectorBeginAppends : base.frameQuiet ∧ base.regs.device = .running ∧ base.beam.isOpen = true ∧
    closed.frameQuiet ∧ closed.beam.isOpen = false ∧ State.reset.frameQuiet ∧ State.reset.regs.device ≠ .running :=
  ⟨⟨rfl, rfl⟩, rfl, rfl, ⟨rfl, rfl⟩, rfl, ⟨rfl, rfl⟩, by decide⟩

theorem test_met_VectorEndEndsNewest :
    (∃ (s : State) (older : List Entry) (e : Entry), s.frameQuiet ∧ s.regs.device = .running ∧ s.beam.isOpen = true ∧
      s.beam.trail = older ++ [e] ∧ e.ended = none) ∧
    (∃ (s : State) (older : List Entry) (e : Entry), s.frameQuiet ∧ s.beam.trail = older ++ [e] ∧ e.ended ≠ none) ∧
    (base.frameQuiet ∧ base.beam.trail = []) ∧ closed.frameQuiet ∧ closed.beam.isOpen = false :=
  ⟨⟨{ base with beam := { base.beam with trail := [drawn, drawing] } }, [drawn], drawing, ⟨rfl, rfl⟩, rfl, rfl, rfl, rfl⟩,
    ⟨{ base with beam := { base.beam with trail := [drawn] } }, [], drawn, ⟨rfl, rfl⟩, rfl, by decide⟩,
    ⟨⟨rfl, rfl⟩, rfl⟩, ⟨rfl, rfl⟩, rfl⟩

theorem test_met_FrameEndClosesFrame : (watch.frameQuiet ∧ watch.busQuiet ∧ watch.regs.device = .running ∧
    watch.beam.isOpen = true) ∧ closed.frameQuiet ∧ closed.busQuiet ∧ closed.beam.isOpen = false :=
  ⟨⟨⟨rfl, rfl⟩, rfl, rfl, rfl⟩, ⟨rfl, rfl⟩, rfl, rfl⟩

/-- Each channel state at a frame end, with a glare count at its last value and a reminder due or not, a budget of 1 and of 2, and
seven measurements and eight. -/
theorem test_met_FrameEndClosesFrame_states : ∀ mode ∈ [Mode.off, .watch, .pressed, .calibrating, .tracking, .suspended, .glare],
    ∀ n ∈ [7, 8], ∀ budget ∈ [1, 2], ∀ phase ∈ [62, 63],
    let s := armedA (tracking.onChan .a fun x => { x with
      mode := mode, press := some ⟨.tip, 7, 20⟩, glareFrames := 65535, duration := 65535, reminderPhase := phase, budget := budget
      measures := List.replicate n ⟨60, false⟩ })
    (s.work = FrameWork.none ∧ s.claims.asks = ⟨none, none⟩) ∧ s.busFault = none ∧ s.regs.device = .running ∧
      s.beam.isOpen = true ∧ (s.chan .a).mode = mode ∧ Memory.wf s.mem ∧ (s.menu .a).armed ≠ none := by decide

/-- A frame end with the work of channel A done first, and of channel B. -/
def frameEnds (s : State) : List State :=
  let u := { s.closeTrail.countBlink with choices := s.choices + 1 }
  [((State.chanFrame .a u).andThen (State.chanFrame .b)).andThen State.finishFrame,
    ((State.chanFrame .b u).andThen (State.chanFrame .a)).andThen State.finishFrame]

/-- Section 10.5, R114 and R27, in both orders: k rises from 3 to 4, the countdown falls from 5 to 4 and the 64th reminder is owed. -/
theorem test_frameEnd_counts :
    let s := armedA (withA fun x => { x with mode := .glare, glareFrames := 65535, reminderPhase := 63 })
    ∀ t ∈ frameEnds s, t.feedback.blink = some 4 ∧ (t.menu .a).countdown = 4 ∧ t.chans.a.glareFrames = 65535 ∧
      t.work.owed.a = some .reminder := by decide

/-- FRAME END is one of the two orders, and with both channels OFF nothing is left owed. -/
theorem test_frameEnd_orders : (∀ t ∈ frameEnds base, t.work = FrameWork.none ∧ t.claims.asks = ⟨none, none⟩) ∧
    ∃ t ∈ frameEnds base, exec .frameEnd base = .next t := by
  refine ⟨by decide, ?_⟩
  cases h : Config.channelBFirst 0
  · exact ⟨_, .head _, congrArg Host.Outcome.next (show State.andThen (if Config.channelBFirst 0 then _ else _) _ = _ by rw [h]; rfl)⟩
  · exact ⟨_, .tail _ (.head _), congrArg Host.Outcome.next (show State.andThen (if Config.channelBFirst 0 then _ else _) _ = _ by rw [h]; rfl)⟩

theorem test_met_FrameClockSaturates : watch.regs.device = .running ∧ watch.beam.isOpen = true ∧
    ∀ c n, (watch.chan c).echo ≠ .due n := ⟨rfl, rfl, fun c n => by cases c <;> exact nofun⟩

/-- At the edge of each clause: the strike at the working delay and one tick before it, without and with a vector being drawn. -/
theorem test_met_StrikeIsTaken : ∀ clock ∈ [47, 48], ∀ trail ∈ [[drawn], [drawn, { drawing with begun := 0 }]],
    let s := { watch with beam := { watch.beam with clock := clock, trail := trail } }
    s.regs.device = .running ∧ s.beam.isOpen = true ∧ (s.chan .a).mode = .watch ∧ s.idle.dim = false ∧
      (s.chan .a).strikes < 4 := by decide

theorem test_met_StrikeIsMeasured : ∀ clock ∈ [550, 551], ∀ measured ∈ [false, true],
    let s := { fewMeasures.onChan .a (fun x => { x with measured := measured }) with
      beam := { base.beam with clock := clock, trail := [{ drawn with tag := 0xF0, begun := 39 }] } }
    s.regs.device = .running ∧ s.beam.isOpen = true ∧ (s.chan .a).mode = .calibrating ∧
      (s.chan .a).dotTag = some 0xF0 ∧ s.idle.dim = false ∧ (s.chan .a).strikes < 4 ∧
      (clock = 550 ↔ ∃ e ∈ s.beam.trail, e.tag = 0xF0 ∧ e.begun ≤ clock ∧ clock ≤ e.begun + 511) := by decide

theorem test_met_StrikeIsDiscarded :
    (∀ s ∈ [withA fun x => { x with mode := .glare }, withA fun x => { x with mode := .suspended },
        withA fun x => { x with mode := .watch, strikes := 4 }],
      s.regs.device = .running ∧ (s.chan .a).mode ≠ .off ∧
        ((s.chan .a).mode = .glare ∨ (s.chan .a).mode = .suspended ∨ 4 ≤ (s.chan .a).strikes)) ∧
    ({ watch with beam := closed.beam } : State).beam.isOpen = false ∧
    let s : State := { configured { defaultConfiguration with strikeGate := ⟨true, false⟩ } watch with idle := ⟨true, 0⟩ }
    s.idle.dim = true ∧ s.config.strikeGate.report = false := by decide

theorem test_met_LineLeavesActiveLevel :
    (watch.regs.device = .running ∧ watch.frameQuiet ∧ (watch.chan .a).mode ≠ .off ∧ (watch.chan .a).mode ≠ .glare) ∧
    ∃ s : State, s.regs.device = .running ∧ s.frameQuiet ∧ (s.chan .a).mode = .glare ∧ s.busQuiet ∧ s.logReady ∧
      Memory.wf s.mem :=
  ⟨⟨rfl, ⟨rfl, rfl⟩, by decide, by decide⟩,
    withA fun x => { x with mode := .glare, glareFrames := 3 }, rfl, ⟨rfl, rfl⟩, rfl, rfl, ⟨rfl, by decide⟩, by decide⟩

theorem test_met_GlareOnsetEntersGlare : ∀ m ∈ [Mode.watch, .pressed, .calibrating, .tracking, .suspended],
    let s := withA fun x => { x with mode := m, glareTimer := some 61 }
    s.regs.device = .running ∧ (s.work = FrameWork.none ∧ s.claims.asks = ⟨none, none⟩) ∧ s.busFault = none ∧
      (s.chan .a).mode ≠ .off ∧ (s.chan .a).mode ≠ .glare ∧ (s.chan .a).glareTimer ≠ none ∧
      (s.log.held = [] ∧ s.slotFree = true) ∧ Memory.wf s.mem ∧ (s.chan .a).collection = none := by decide

theorem test_met_GlareReminderRecord : ∀ n ∈ [0, 65535],
    let s := owing .reminder (withA fun x => { x with mode := .glare, reminders := n })
    s.regs.device = .running ∧ s.busFault = none ∧ (s.log.held = [] ∧ s.slotFree = true) ∧ Memory.wf s.mem ∧
      (s.chan .a).mode = .glare ∧ s.work.owed.get .a = some .reminder := by decide

/-- The echo before the working delay and at it, without and with a vector being drawn; one that is discarded at the limit of four;
and a channel with none. -/
theorem test_met_EchoIsDelivered : ∀ n ∈ [147, 148], ∀ trail ∈ [[drawn], [drawn, { drawing with begun := 0 }]],
    ∀ strikes ∈ [3, 4],
    let t := withA fun x => { x with mode := .watch, delay := 148, echo := .due n, strikes := strikes }
    let s := { t with beam := { t.beam with trail := trail } }
    s.regs.device = .running ∧ s.beam.isOpen = true ∧ (s.chan .a).echo = .due n ∧ (s.chan .b).echo = .none ∧
      (s.chan .a).mode = .watch ∧ s.idle.dim = false ∧ ((s.chan .a).strikes < 4 ∨ 4 ≤ (s.chan .a).strikes) := by decide

/-- The four cases of an entry from 40 to 60, and an offset at W and one past it. -/
theorem test_met_CandidatesByOffset :
    candidate 5 ⟨40, 80, false⟩ drawn = some (drawn, 60, 0, 40) ∧ candidate 5 ⟨35, 40, false⟩ drawn = some (drawn, 60, 5, 40) ∧
    candidate 5 ⟨34, 40, false⟩ drawn = none ∧ candidate 5 ⟨64, 80, false⟩ drawn = some (drawn, 60, 5, 60) ∧
    candidate 5 ⟨65, 80, false⟩ drawn = none ∧ candidate 5 ⟨39, 39, false⟩ drawn = none := by decide

/-- Verdicts of each kind: a TRAIL SHORT, a BLANK, a FORBIDDEN and a RESOLVED one. -/
theorem test_met_StrikeVerdict :
    let s : State := { watch with beam := { watch.beam with trail := [drawn], dropped := true } }
    let u : State := { tracking with beam := { watch.beam with trail := [{ drawn with group := 63, tag := 0 }] } }
    s.resolve .a ⟨39, 80, false⟩ = .trailShort ∧ watch.resolve .a ⟨40, 80, false⟩ = .blank ∧
      ({ s with beam := { s.beam with dropped := false } } : State).resolve .a ⟨50, 80, false⟩ = .forbidden ∧
      u.resolve .a ⟨50, 80, false⟩ = .resolved ⟨63, 0, 0, 2048, ⟨15, 15⟩, 0, ⟨10, 10⟩⟩ := by decide +kernel

theorem test_met_PointOnVector : alongVector drawn 0 0 = ⟨10, 10⟩ ∧ alongVector drawn 20 20 = ⟨20, 20⟩ ∧
    hitOn (drawn, 60, 0, 60) = ⟨5, 9, 0, 4096, ⟨20, 20⟩, 0, ⟨10, 10⟩⟩ := by decide +kernel

theorem test_met_LoftConversion : (⟨0, 0, 0, 0, 1, -1⟩ : ViewEntry).sx ≠ 0 ∧ (⟨0, 0, 0, 0, 1, -1⟩ : ViewEntry).sy ≠ 0 := by
  decide

theorem test_met_PermissionAnswers : (tracking.chan .a).mode = .tracking ∧ (watch.chan .a).mode ≠ .tracking ∧
    (watch.chan .a).mode ≠ .suspended ∧ watch.permits [] .a 63 0 = false ∧ tracking.permits [] .a 63 3 = true ∧
    tracking.permits [] .a 63 4 = false := by decide

theorem test_met_MissEndsPressWindow :
    let s := owing .miss (withA fun x => { x with mode := .pressed, press := some ⟨.foot, 5, 30⟩ })
    s.regs.device = .running ∧ s.busFault = none ∧ (s.log.held = [] ∧ s.slotFree = true) ∧ Memory.wf s.mem ∧
      (s.chan .a).mode = .pressed ∧ (s.chan .a).press = some ⟨.foot, 5, 30⟩ ∧ s.work.owed.get .a = some .miss := by decide

/-- A sighting of the tests. -/
def sighting (x : Nat) : Sighting := ⟨⟨x, x⟩, 2, 4096, 1, false⟩

/-- Three entries kept and one new one, and a pick of an entry with an absence in its history. -/
theorem test_met_MissEndsPressWindow_update :
    let q := fun tag : Nat => (⟨5, tag, [some (sighting 1)], false⟩ : Qual)
    updateTable 2 1 [⟨5, 9, sighting 3⟩, ⟨5, 4, sighting 7⟩] [q 1, q 2, q 9] =
      [⟨5, 1, [some (sighting 1), none], false⟩, ⟨5, 2, [some (sighting 1), none], false⟩,
        ⟨5, 9, [some (sighting 1), some (sighting 3)], false⟩, ⟨5, 4, [some (sighting 7)], false⟩] ∧
    ((⟨5, 9, [some (sighting 1), none, some (sighting 4)], false⟩ : Qual).toPick .tip).point = ⟨3, 3⟩ := by decide

/-- A window with no eligible entry, and one with the entry of a live button eligible. -/
theorem test_met_MissEndsPressWindow_pick :
    let s := withA fun x => { x with mode := .pressed, press := some ⟨.tip, 7, 20⟩, windowCount := 1 }
    let t := (s.onChan .a fun x => { x with table := [⟨62, 9, [some (sighting 1), some (sighting 2), some (sighting 3)], false⟩] })
    let u := { t with loader := { t.loader with tables := { t.loader.tables with
      sheets := [⟨false, none, [⟨9, some .command, 0, 0, false, false, false⟩]⟩] } } }
    ((s.onChan .a Channel.countWindow).updateQual .a).eligible [] .a = [] ∧
      (((u.onChan .a Channel.countWindow).updateQual .a).eligible [] .a).length = 1 ∧
      (u.chan .a).press = some ⟨.tip, 7, 20⟩ := by decide

theorem test_met_LostEndsTracking :
    let s := owing .lost tracking
    s.regs.device = .running ∧ s.busFault = none ∧ (s.log.held = [] ∧ s.slotFree = true) ∧ Memory.wf s.mem ∧
      (s.chan .a).mode = .tracking ∧ (s.chan .a).tracked = some (5, 9) ∧ s.work.owed.get .a = some .lost := by decide

theorem test_met_TooFewEndsCalibration : ∀ ms ∈ [[], [⟨60, false⟩, ⟨64, true⟩]],
    let s := owing .tooFew (fewMeasures.onChan .a fun x => { x with measures := ms })
    s.regs.device = .running ∧ s.busFault = none ∧ (s.log.held = [] ∧ s.slotFree = true) ∧ Memory.wf s.mem ∧
      (s.chan .a).mode = .calibrating ∧ (s.chan .a).dotTag = some 0xF0 ∧ (s.chan .a).measures.length < 8 ∧
      (s.chan .a).budget = 0 ∧ s.work.owed.get .a = some .tooFew := by decide

/-- Eight measurements that spread by 64, and by 65. -/
theorem test_met_CalibrationFinishes : ∀ top ∈ [164, 165],
    let v := [100, 101, 102, 103, 104, 105, 106, top]
    let s := withA fun x => { x with mode := .calibrating, measures := v.map fun n => ⟨n, false⟩ }
    s.regs.device = .running ∧ s.busFault = none ∧ (s.chan .a).measures.length = 8 ∧ v.Pairwise (· ≤ ·) ∧
      v = (s.chan .a).measures.map Measure.ticks := by decide

theorem test_met_ConfirmExpiryDisarms :
    let s : State := { armedA watch with work := { FrameWork.none with active := true, expiry := ⟨true, false⟩ } }
    s.regs.device = .running ∧ s.busFault = none ∧ (s.log.held = [] ∧ s.slotFree = true) ∧ Memory.wf s.mem ∧
      s.work.owed.get .a = none ∧ s.work.expiry.get .a = true ∧ (s.menu .a).armed = some (0, 2) ∧
      (s.menu .b).armed = none := by decide

/-- A live button on the top sheet, plain and with CONFIRM; it, another button, and none armed. -/
theorem test_met_ConfirmExpiryDisarms_pick : ∀ confirm ∈ [false, true], ∀ armed ∈ [none, some (0, 0), some (0, 1)],
    let t := watch.onMenu .a fun m => { m with armed := armed }
    let s := { t with loader := { t.loader with tables := { t.loader.tables with
      sheets := [⟨false, none, [⟨8, some .back, 0, 0, true, false, false⟩, ⟨9, some .toggle, 0, 0, confirm, false, false⟩]⟩] } } }
    (s.topSheet .a).buttons.map Button.tag = [8, 9] ∧ (s.topSheet .a).buttons.map Button.inert = [false, false] ∧
      s.regs.device = .running ∧ s.busFault = none ∧ (s.log.held = [] ∧ s.slotFree = true) ∧ Memory.wf s.mem ∧
      (s.menu .a).armed = armed := by decide

theorem test_met_BlinkPeriodRestarts :
    let t := armedA watch
    let s : State := { t with
      feedback := { t.feedback with blink := some 20, waiting := some (30, 15) }
      work := { FrameWork.none with active := true, period := true } }
    s.regs.device = .running ∧ s.busFault = none ∧ s.work.period = true ∧ s.feedback.blink = some s.feedback.period := by
  decide

/-- A menu table of one sheet with one button. -/
def oneButton (s : State) : State :=
  { s with loader := { s.loader with tables := { s.loader.tables with
    sheets := [⟨false, none, [⟨9, some .command, 0, 0, true, false, false⟩]⟩] } } }

/-- R110: a bus error on the MENU record of a button pick leaves the entry's fired flag clear; without one it is set. -/
theorem test_button_fired : ∀ e ∈ [none, some (⟨.slotRead, 1, 0⟩ : BusError)],
    let s := oneButton (withA fun x => { x with mode := .watch, table := [⟨62, 9, [some ⟨⟨1, 1⟩, 0, 0, 0, false⟩], false⟩] })
    let t := { s with busFault := e }.pickButton .a ⟨62, 9, ⟨1, 1⟩, 0, 0, 1, .sight, false⟩
    t.chans.a.table.map Qual.fired = [e.isNone] ∧ (t.regs.device = .halted ↔ e.isSome = true) := by decide

/-- R183: in HALTED a write of the host's lands and a read in flight stands still. -/
theorem test_halted_read :
    let t := (halted.setLoad .view (.reading 2 [])).arrive (.hostWrite 0x300 [7])
    t.loader.loads.view = .reading 2 [] ∧ Memory.read t.mem 0x300 = 7 := by decide

/-- R154, R159: an armed button with k one below the on-count and at it, a tracked element, an entry, and none of these. R156: the
cross on and off. -/
theorem test_feedback :
    let armed := fun k : Nat => { (oneButton tracking).onMenu .a (fun m => { m with armed := some (0, 0) }) with
      feedback := { base.feedback with blink := some k } }
    let entered : State := { watch with feedback := { base.feedback with entry := ⟨some (5, 9), none⟩ } }
    (armed 9).highlight .a = ⟨62, 9, .blinkOn⟩ ∧ (armed 10).highlight .a = ⟨62, 9, .off⟩ ∧
      tracking.highlight .a = ⟨5, 9, .steady⟩ ∧ entered.highlight .a = ⟨5, 9, .steady⟩ ∧ watch.highlight .a = ⟨0, 0, .off⟩ ∧
      tracking.cross .a = ⟨true, ⟨2000, 1500⟩, 32⟩ ∧ watch.cross .a = ⟨false, ⟨0, 0⟩, 32⟩ := by decide

/-- R155: with a table entry below K sightings, and at K, on a live button; and outside WATCH and PRESSED. -/
theorem test_met_BlinkPeriodRestarts_choice : ∀ mode ∈ [Mode.watch, .pressed, .calibrating], ∀ n ∈ [2, 3],
    let s := oneButton (withA fun x => { x with mode := mode, table := [⟨62, 9, List.replicate n (some ⟨⟨1, 1⟩, 0, 0, 0, false⟩), true⟩] })
    ((s.choose [] .a).feedback.entry.get .a = some (62, 9) ↔ n = 3 ∧ mode ≠ .calibrating) := by decide

/-- Two tags requested: the tag of a pick held already, one that leaves one tag to pick, and one that completes the collection with
the slot after the next FREE and FILLED. -/
theorem test_met_LoneAskIsGranted_collection :
    ∀ k ∈ [(⟨2, 1, [9]⟩ : Collection), ⟨2, 2, []⟩, ⟨2, 1, [8]⟩], ∀ fill ∈ [0, 1],
    let s := (asking.onChan .a fun x => { x with collection := some k }).writeArea 0x1840 [fill]
    s.regs.device = .running ∧ s.busFault = none ∧ (s.log.held = [] ∧ s.slotFree = true) ∧ Memory.wf s.mem ∧
      (s.chan .a).collection = some k ∧ 1 ≤ k.remaining ∧ (s.completes .a 9 = true ↔ k = ⟨2, 1, [8]⟩) ∧
      (Memory.read s.mem (s.area (slotOffset ((s.log.nextSlot + 1) % 64))) = 0 ↔ fill = 0) := by decide

/-- The worked case of section 6.7: the repeat keeps its place, and the third tag completes the collection. -/
theorem test_collectTag : collectTag (some ⟨3, 1, [0x300, 0x301]⟩) 0x300 = (1, true, some ⟨3, 1, [0x300, 0x301]⟩) ∧
    collectTag (some ⟨3, 1, [0x300, 0x301]⟩) 0x302 = (3, false, some ⟨3, 0, [0x300, 0x301, 0x302]⟩) := by decide

/-- Group 60 draggable and group 61, which no table names; the tip held and not; a button armed and none. -/
theorem test_met_LoneAskIsRefused_pick : ∀ held ∈ [true, false], ∀ armed ∈ [none, some (0, 2)],
    let t := asking.setInput 0 ⟨held, held, none⟩
    let s := { t.onMenu .a (fun m => { m with armed := armed }) with
      loader := { t.loader with tables := { t.loader.tables with groups := List.replicate 61 ⟨1, true, none⟩ } } }
    s.regs.device = .running ∧ s.busFault = none ∧ (s.log.held = [] ∧ s.slotFree = true) ∧ Memory.wf s.mem ∧
      (s.chan .a).press = some ⟨.tip, 7, 20⟩ ∧ (s.menu .a).armed = armed ∧ s.tipHeld .a = held ∧
      (s.tables.groups[60]?).map GroupEntry.draggable = some true ∧ (s.chan .a).collection = none := by decide

theorem test_met_LoneAskIsGranted : asking.regs.device = .running ∧ asking.busFault = none ∧
    (asking.log.held = [] ∧ asking.slotFree = true) ∧ Memory.wf asking.mem ∧ asking.claims.asks.get .a = some (ask 9 7 20) ∧
    asking.claims.asks.get .b = none ∧ (∀ e ∈ asking.claims.entries, e.tag ≠ 9) ∧ asking.claims.entries.length < 8 ∧
    (asking.chan .a).collection = none := by decide

/-- The asked tag held by PROGRAM with either contest outcome, and a full table without it. -/
theorem test_met_LoneAskIsRefused : ∀ rule ∈ [ContestRule.pickOnly, .refuse],
    ∀ entries ∈ [[⟨9, .program⟩], (List.range 8).map fun n => (⟨n, .program⟩ : Claim)],
    let s := (configured (contesting rule) asking).onClaims fun _ => entries
    s.regs.device = .running ∧ s.busFault = none ∧ (s.log.held = [] ∧ s.slotFree = true) ∧ Memory.wf s.mem ∧
      s.claims.asks.get .a = some (ask 9 7 20) ∧ s.claims.asks.get .b = none ∧ (s.chan .a).collection = none ∧
      (s.chan .a).press = some (ask 9 7 20).press ∧ (s.chanConfig .a).contest = rule ∧
      ((∃ e ∈ s.claims.entries, e.tag = 9) ∨ 8 ≤ s.claims.entries.length) := by decide

/-- Equal press times, B's the earlier frame, and A's the smaller frame clock. -/
theorem test_met_EarlierPressWins : ∀ kb ∈ [ask 9 7 20, ask 9 6 90, ask 9 7 21],
    let s : State := { asking with claims := { asking.claims with asks := ⟨some (ask 9 7 20), some kb⟩ } }
    s.regs.device = .running ∧ s.busFault = none ∧ s.claims.asks = ⟨some (ask 9 7 20), some kb⟩ ∧
      (ask 9 7 20).pick.tag = kb.pick.tag ∧ (∀ e ∈ s.claims.entries, e.tag ≠ 9) ∧ s.claims.entries.length < 8 ∧
      s.beam.frame < 65536 ∧ kb.press.frame < 65536 := by decide

/-- An arm's strike of channel A. -/
def armHit (tag : Nat) (start point : Point) : StrikeResult := ⟨.resolved ⟨63, tag, 0, 0, point, 0, start⟩, false⟩

/-- Section 8.4: both arms of the x axis struck, one arm of the y axis, and none. -/
theorem test_met_CrossUpdateMoves :
    (crossUpdate .a ⟨2000, 1500⟩ [armHit 0 ⟨2000, 1500⟩ ⟨2014, 1500⟩, armHit 2 ⟨2000, 1500⟩ ⟨2010, 1500⟩,
      armHit 1 ⟨2000, 1500⟩ ⟨2000, 1501⟩]).1 = ⟨2012, 1501⟩ ∧
    (crossUpdate .a ⟨2000, 1500⟩ [armHit 2 ⟨5, 9⟩ ⟨0, 9⟩]).1 = ⟨0, 1500⟩ ∧ (crossUpdate .a ⟨9, 9⟩ []).1 = ⟨9, 9⟩ := by decide

/-- A frame end in TRACKING: the tip held and not, the centre moved and not, and the loss count reaching the limit and one below. -/
theorem test_met_CrossUpdateMoves_frame : ∀ held ∈ [true, false], ∀ rs ∈ [[], [armHit 0 ⟨2000, 1500⟩ ⟨2012, 1500⟩]],
    ∀ loss ∈ [2, 3],
    let s := (tracking.onChan .a fun x => { x with results := rs, loss := loss, duration := 65535 }).setInput 0 ⟨held, held, none⟩
    s.regs.device = .running ∧ s.busFault = none ∧ (s.log.held = [] ∧ s.slotFree = true) ∧ Memory.wf s.mem ∧
      (s.chan .a).mode = .tracking ∧ (s.chan .a).tracked = some (5, 9) ∧ s.work.owed.get .a = none ∧ s.tipHeld .a = held ∧
      ((crossUpdate .a (s.chan .a).centre rs).1 ≠ (s.chan .a).centre ↔ rs ≠ []) ∧ (s.chanConfig .a).lossLimit = 4 := by decide

/-- The second worked update of section 8.3: the east arm drawn from (10, 800) and the west arm from (60, 800) give EDGE. -/
theorem test_edge : (crossUpdate .a ⟨10, 800⟩ [armHit 0 ⟨10, 800⟩ ⟨10, 800⟩, armHit 2 ⟨60, 800⟩ ⟨28, 800⟩]) =
    (⟨0, 800⟩, true, 2, false) := by decide

theorem test_met_SwitchInputsAreDebounced : (base.regs.device ≠ .halted ∧ base.frameQuiet ∧
    (base.inputs.get 3).raw ≠ true ∧ 0 < base.config.debounce) ∧
    (moving 3 State.reset).regs.device ≠ .running ∧ (moving 3 State.reset).frameQuiet ∧
    ((moving 3 State.reset).inputs.get 3).timer ≠ none :=
  ⟨⟨by decide, ⟨rfl, rfl⟩, by decide, by decide⟩, by decide, ⟨rfl, rfl⟩, by decide⟩

theorem test_met_PressOpensWindow :
    let s := moving 0 watch
    s.regs.device = .running ∧ (s.work = FrameWork.none ∧ s.claims.asks = ⟨none, none⟩) ∧ (s.inputs.get 0).timer ≠ none ∧
      (s.inputs.get 0).raw = true ∧ s.penInput 0 = some (.a, .tip) ∧ (s.chanConfig .a).trigger.allows .tip = true ∧
      (s.chan .a).mode = .watch ∧ s.idle.dim = false := by decide

/-- An input the mask selects and one it does not; AWAKE, and DIM with the event not passed. -/
theorem test_met_ConsoleSwitchRecord : ∀ dim ∈ [false, true],
    let s : State := { configured { defaultConfiguration with reportMask := 0x10, consoleGate := ⟨true, false⟩ }
      (moving 4 (moving 5 watch)) with idle := ⟨dim, 0⟩ }
    s.regs.device = .running ∧ (s.work = FrameWork.none ∧ s.claims.asks = ⟨none, none⟩) ∧ s.busFault = none ∧
      (s.log.held = [] ∧ s.slotFree = true) ∧ Memory.wf s.mem ∧
      (∀ n ∈ ([4, 5] : List (Fin 8)), (s.inputs.get n).timer ≠ none ∧ s.penInput n = none) ∧
      s.config.reportMask.getLsbD 4 = true ∧ s.config.reportMask.getLsbD 5 = false ∧
      s.config.consoleGate.report = false := by decide

theorem test_met_IdleTimeoutDims : base.regs.device = .running ∧ base.idle.dim = false ∧ base.config.idleSeconds ≠ 0 := by
  decide

/-- A revision that stands as the read began, and one that does not. -/
theorem test_met_ReadEndWaitsOrDiscards : ∀ (r : Word) (got : List Byte),
    let s := base.setLoad .view (.reading r got)
    s.regs.device = .running ∧ s.busFault = none ∧ s.loader.loads.get .view = .reading r got ∧ s.revisionWord .view = 0 :=
  fun _ _ => ⟨rfl, rfl, rfl, rfl⟩

/-- An IDLE table whose revision is even and new, odd, and the installed one; and a table that is READING. -/
theorem test_met_ReadEndWaitsOrDiscards_look :
    let odd := base.writeArea 0x0C [1, 0, 0, 0]
    let same : State := { base with loader := { base.loader with revisions := ⟨none, none, some 0, none⟩ } }
    base.busFault = none ∧ base.loader.loads.get .view = .idle ∧ (base.revisionWord .view).toNat % 2 = 0 ∧
      base.loader.revisions.get .view ≠ some (base.revisionWord .view) ∧ odd.busFault = none ∧
      (odd.revisionWord .view).toNat % 2 = 1 ∧ same.busFault = none ∧
      same.loader.revisions.get .view = some (same.revisionWord .view) ∧
      (base.setLoad .view (.reading 2 [])).loader.loads.get .view ≠ .idle := by decide

/-- R106, R146: a configuration of zero bytes names input 0 four times; a menu table with sheet count 0 has one sheet. -/
theorem test_validate : (parseConfig []).1.chans.a.tip = some 0 ∧ (parseConfig []).1.chans.b.foot = none ∧
    (parseMenu []).1.length = 1 ∧ (initialChoice [⟨8, some .choice, 0, 0, false, false, true⟩] 0).1 = none := by decide

/-- R72 and section 12.2: views 7 and 8 of the group table, and Dx 4095 and 4096 of the view table. -/
theorem test_validate_views : groupEntry [7, 1, 7, 0] 0 = (⟨7, true, some 7⟩, 0) ∧ groupEntry [8, 2, 8, 0] 0 = (⟨0, false, none⟩, 1) ∧
    groupEntry [0, 0, 255, 0] 0 = (⟨0, false, none⟩, 0) ∧ viewEntry [0xFF, 0x0F, 0, 0x10] 0 = (⟨4095, 0, 0, 0, 0, 0⟩, 1) := by decide

theorem test_met_StartMakesRunning : loaded.regs.device = .loading ∧ loaded.busQuiet ∧ loaded.frameQuiet ∧
    loaded.log.held = [] ∧ Memory.wf loaded.mem ∧ (∀ c, loaded.chan c = Channel.reset) ∧
    (∀ c, loaded.menu c = Menu.reset) ∧ loaded.loader.tables = Tables.reset ∧
    loaded.loader.loads = ⟨.waiting (loaded.revisionWord .config) (.config defaultConfiguration) 0,
      .waiting (loaded.revisionWord .group) (.group []) 0, .waiting (loaded.revisionWord .view) (.view []) 0,
      .waiting (loaded.revisionWord .menu) (.menu [emptySheet]) 0⟩ ∧
    Memory.read loaded.mem (loaded.area 0x20) = 0 ∧ ∀ n, (loaded.inputs.get n).timer = none :=
  ⟨rfl, rfl, ⟨rfl, rfl⟩, rfl, by decide, fun c => by cases c <;> rfl, fun c => by cases c <;> rfl, rfl, by decide, by decide,
    by decide⟩

/-- An install of the menu table alone, and a channel that an install enables, disables or leaves as it is. -/
theorem test_met_StartMakesRunning_install :
    let s := base.setLoad .menu (.waiting 4 (.menu [emptySheet, emptySheet]) 1)
    (∀ i ∈ allTables, (base.loader.loads.get i).waitingRevision = none) ∧ s.regs.device = .running ∧ s.busFault = none ∧
      s.loader.loads.menu = .waiting 4 (.menu [emptySheet, emptySheet]) 1 ∧
      (∀ i ∈ allTables, i ≠ .menu → (s.loader.loads.get i).waitingRevision = none) ∧
      (s.menu .a).armed = none ∧ (s.menu .b).armed = none ∧ (base.chan .a).mode = .off ∧ (watch.chan .a).mode ≠ .off ∧
      watch.busFault = none := by decide

/-- A state in STOPPED, its channels OFF, takes lock requests at group 60 and refuses group 61 and channel 2. -/
theorem test_met_LockRequests : State.reset.accepts (args 1 0 60 0) ∧ State.reset.accepts (args 1 1 61 0) ∧
    State.reset.accepts (args 1 2 0 0) ∧ (args 1 2 0 0).namesNone :=
  ⟨accepts_of (by decide) _ _ _, accepts_of (by decide) _ _ _, accepts_of (by decide) _ _ _,
    fun c => by cases c <;> decide⟩

/-- A tag held, a tag free with seven entries, and with eight. -/
theorem test_met_ClaimRequest : ∀ n ∈ [7, 8],
    let s := base.onClaims fun _ => (List.range n).map fun i => ⟨i, .program⟩
    s.accepts (args 1 0 6 0) ∧ s.accepts (args 1 0 9 0) ∧ (∃ k ∈ s.claims.entries, k.tag = 6) ∧
      (¬∃ k ∈ s.claims.entries, k.tag = 9) ∧ s.claims.entries.length = n := by
  intro n hn
  have e : n = 7 ∨ n = 8 := by simpa using hn
  rcases e with rfl | rfl <;>
    exact ⟨accepts_of (by decide) _ _ _, accepts_of (by decide) _ _ _, by decide, by decide, by decide⟩

theorem test_met_ReleaseRequest :
    let s := tracking.onClaims fun e => e ++ [⟨3, .program⟩]
    s.accepts (args 1 0 9 0) ∧ s.accepts (args 1 0 3 0) ∧ claimsLaw s.claims.entries ∧
      (∀ k ∈ s.claims.entries, k.tag ≠ 4) ∧ ⟨3, .program⟩ ∈ s.claims.entries ∧ ⟨9, .pen .a⟩ ∈ s.claims.entries ∧
      (s.chan .a).tracked = some (5, 9) ∧ s.logReady :=
  ⟨accepts_of (by decide) _ _ _, accepts_of (by decide) _ _ _, ⟨by decide, by decide⟩, by decide, by decide, by decide, rfl,
    rfl, by decide⟩

/-- A SUSPENDED channel with the tip held, and not held. -/
theorem test_met_SuspendAndResume : ∀ held ∈ [true, false],
    let t := tracking.onChan .a fun x => { x with mode := .suspended }
    let s := t.setInput 0 ⟨held, held, none⟩
    tracking.accepts (args 1 0 0 0) ∧ (args 1 0 0 0).channel = chanField .a ∧ (tracking.chan .a).mode = .tracking ∧
      s.accepts (args 1 0 0 0) ∧ (s.chan .a).mode = .suspended ∧ s.tipHeld .a = held ∧
      (s.chan .a).tracked = some (5, 9) ∧ s.logReady := by
  intro held _
  cases held <;>
    exact ⟨accepts_of (by decide) _ _ _, rfl, rfl, accepts_of (by decide) _ _ _, rfl, by decide, rfl, rfl, by decide⟩

theorem test_met_CalibrateAndCancel : watch.accepts (args 1 0 0xF0 0) ∧ (watch.chan .a).mode = .watch ∧
    fewMeasures.accepts (args 1 0 0 0) ∧ (fewMeasures.chan .a).mode = .calibrating ∧
    (fewMeasures.chan .a).dotTag = some 0xF0 ∧ fewMeasures.logReady :=
  ⟨accepts_of (by decide) _ _ _, rfl, accepts_of (by decide) _ _ _, rfl, rfl, rfl, by decide⟩

/-- Sheet 0 is installed and 1 is not; a stack of one entry, and of four; a button armed, and none. -/
theorem test_met_OpenSheetAndHomeMenu :
    let full := watch.onMenu .a fun m => { m with stack := [0, 0, 0, 0] }
    watch.accepts (args 1 0 0 0) ∧ watch.accepts (args 1 0 1 0) ∧ full.accepts (args 1 0 0 0) ∧
      (armedA watch).accepts (args 1 0 0 0) ∧ (watch.chan .a).mode ≠ .off ∧ watch.tables.sheets.length = 1 ∧
      (watch.menu .a).stack.length < 4 ∧ 4 ≤ (full.menu .a).stack.length ∧ (watch.menu .a).armed = none ∧
      ((armedA watch).menu .a).armed = some (0, 2) ∧ ((armedA watch).menu .b).armed = none ∧ (armedA watch).logReady :=
  ⟨accepts_of (by decide) _ _ _, accepts_of (by decide) _ _ _, accepts_of (by decide) _ _ _, accepts_of (by decide) _ _ _,
    by decide, rfl, by decide, by decide, rfl, rfl, rfl, rfl, by decide⟩

theorem test_met_CollectRequests : ∀ n ∈ ([0, 1, 16, 17] : List (BitVec 16)),
    let s := withA fun x => { x with mode := .watch, collection := some ⟨2, 1, [9]⟩ }
    let g := withA fun x => { x with mode := .glare }
    watch.accepts (args 1 0 n 0) ∧ (watch.chan .a).collection = none ∧ s.accepts (args 1 0 n 0) ∧
      (s.chan .a).collection = some ⟨2, 1, [9]⟩ ∧ s.logReady ∧ g.accepts (args 1 0 n 0) ∧ (g.chan .a).mode = .glare :=
  fun _ _ => ⟨accepts_of (by decide) _ _ _, rfl, accepts_of (by decide) _ _ _, rfl, ⟨rfl, by decide⟩,
    accepts_of (by decide) _ _ _, rfl⟩

theorem test_met_InjectStrikeRequest : ∀ n ∈ ([0xFFFFFF, 0x1000000] : List (BitVec 32)),
    let s := withA fun x => { x with mode := .watch, echo := .due 5 }
    watch.accepts (args 1 0 0 n) ∧ (watch.chan .a).mode ≠ .off ∧ (watch.chan .a).echo = .none ∧ s.accepts (args 1 0 0 n) ∧
      (s.chan .a).echo ≠ .none :=
  fun _ _ => ⟨accepts_of (by decide) _ _ _, by decide, rfl, accepts_of (by decide) _ _ _, by decide⟩

/-- The codes next to the table's, and a cell with a new sequence, with sequence 0, and in HALTED. -/
theorem test_met_UnknownRequestAndAttention :
    let s := base.placeCell 5 (args 3 0 9 0)
    halted.regs.device = .halted ∧ (s.regs.device ≠ .halted ∧ s.busFault = none ∧ Memory.wf s.mem) ∧
      Memory.read s.mem (s.area 0x20) = 3 ∧ s.requests.lastTaken = 0 ∧ Memory.read base.mem (base.area 0x20) = 0 ∧
      base.accepts (args 1 0 0 0) ∧ (0 : BitVec 8).toNat = 0 ∧ 15 < (16 : BitVec 8).toNat :=
  ⟨rfl, by decide, by decide, rfl, by decide, accepts_of (by decide) _ _ _, rfl, by decide⟩

/-- Format number 1, and another; RUN set, and clear. -/
theorem test_met_ControlWriteStarts : formatted.busQuiet ∧ Memory.wf formatted.mem ∧ (0x11 : Word).getLsbD 1 = false ∧
    (0x11 : Word).getLsbD 0 = true ∧ formatted.regs.device = .stopped ∧ formatted.areaBytes 0x00 4 = [1, 0, 0, 0] ∧
    State.reset.areaBytes 0x00 4 ≠ [1, 0, 0, 0] ∧ base.busQuiet ∧ base.regs.device ≠ .stopped ∧
    (0x10 : Word).getLsbD 0 = false := ⟨rfl, by decide, by decide, by decide, rfl, by decide, by decide, rfl, by decide, by decide⟩

theorem test_met_StopAndResets : (3 : Word).getLsbD 1 = true ∧ (0x10 : Word).getLsbD 1 = false ∧
    (0x10 : Word).getLsbD 0 = false ∧ base.regs.device ≠ .stopped := by decide

theorem test_met_StatusAndAreaBaseWrites : State.reset.regs.device = .stopped ∧ base.regs.device ≠ .stopped := by decide

/-- Section 12.7: STATUS of a HALTED device with fault kind BUS ERROR, and its interrupt line. -/
theorem test_readRegister : readRegister halted 0x8 = some 0x103 ∧ readRegister halted 0x4 = some 1 ∧
    readRegister halted 0xC = some 7 ∧ interruptLine halted = false := by decide

theorem test_met_BusErrorHalts : base.busQuiet ∧ Memory.wf base.mem ∧ base.regs.device = .running ∧
    (base.setLoad .view (.reading 2 [])).loader.loads.get .view = .reading 2 [] ∧
    (base.setLoad .view (.reading 2 [])).busQuiet ∧ State.reset.busQuiet ∧ State.reset.regs.device = .stopped ∧
    halted.busQuiet ∧ halted.regs.device = .halted := ⟨rfl, by decide, rfl, rfl, rfl, rfl, rfl, rfl, rfl⟩

/-- A hold of three records and of four; with a TRACK record among the four, a new TRACK record finds room. -/
theorem test_met_RecordsWaitForASlot : ∀ held ∈ [List.replicate 3 plainRecord, List.replicate 4 plainRecord,
      trackRecord :: List.replicate 3 plainRecord],
    (filled held).busFault = none ∧ (filled held).regs.device ≠ .halted ∧ (filled held).slotFree = false := by decide

/-- A record held while the next slot reads FREE, and none held. -/
theorem test_met_RecordsWaitForASlot_drain :
    let s : State := { base with log := ⟨0, 5, [plainRecord]⟩ }
    s.busFault = none ∧ s.log.held = [plainRecord] ∧ s.slotFree = true ∧ s.regs.device ≠ .halted ∧ Memory.wf s.mem ∧
      base.busFault = none ∧ base.log.held = [] := by decide

end Sys2Proof.Tests
end

/-! The vectors of the Beam Trail (01_the_beam_trail.md): the end of the newest entry, the completion of the pending strikes of both
channels, the appending of an entry, and from these the two notes VECTOR BEGIN (R11) and VECTOR END (R13). -/

namespace Sys2Proof.Machine

/-! ### The newest entry -/

theorem Entry.endAt_unended {e : Entry} (t : Nat) (h : e.ended = none) : e.endAt t = { e with ended := some t } := by
  simp [Entry.endAt, h]

@[simp] theorem endNewest_nil (t : Nat) : endNewest t [] = [] := rfl

@[simp] theorem endNewest_concat (t : Nat) (older : List Entry) (e : Entry) :
    endNewest t (older ++ [e]) = older ++ [e.endAt t] := by simp [endNewest]

@[simp] theorem length_endNewest (t : Nat) (trail : List Entry) : (endNewest t trail).length = trail.length := by
  induction trail using List.reverseRecOn with
  | nil => rfl
  | append_singleton older e _ => simp

@[simp] theorem newestUnended_nil : newestUnended [] = false := rfl

@[simp] theorem newestUnended_concat (older : List Entry) (e : Entry) :
    newestUnended (older ++ [e]) = e.ended.isNone := by simp [newestUnended]

/-! ### The completion of the pending strikes -/

/-- A verdict of one channel reads nothing of the other channel's state. -/
theorem State.resolve_setChan_ne (s : State) {c d : Chan} (x : Channel) (k : Strike) (h : d ≠ c) :
    (s.setChan c x).resolve d k = s.resolve d k := by
  have permitted : ∀ g tag, (s.setChan c x).permits s.claims.entries d g tag = s.permits s.claims.entries d g tag := by
    intro g tag
    simp only [State.permits, State.chan_setChan_ne s x h]
    rfl
  simp only [State.resolve, State.setChan_chanConfig, State.setChan_beam, State.setChan_claims, State.setChan_tables, permitted]

theorem State.chan_completePending_ne (s : State) {c d : Chan} (h : d ≠ c) : (s.completePending c).chan d = s.chan d :=
  State.chan_onChan_ne s _ h

/-- Both channels' pending strikes complete against one and the same state, whichever channel goes first (R51). -/
theorem State.chan_completeBoth (s : State) (c : Chan) :
    s.completeBoth.chan c = { s.chan c with
      results := (s.chan c).results ++ (s.chan c).pendingStrikes.map fun k => ⟨s.resolve c k, k.echo⟩
      pendingStrikes := [] } := by
  have ab : Chan.a ≠ Chan.b := by decide
  cases c with
  | a => rw [State.completeBoth, State.chan_completePending_ne _ ab, State.completePending, State.chan_onChan]
  | b =>
    have same : ∀ k, (s.completePending .a).resolve .b k = s.resolve .b k := fun k => s.resolve_setChan_ne _ k ab.symm
    rw [State.completeBoth, State.completePending, State.chan_onChan, State.chan_completePending_ne s ab.symm]
    simp only [same]

/-! ### The end of a vector -/

theorem State.beam_endVector (s : State) :
    s.endVector.beam = { s.beam with trail := endNewest s.beam.clock s.beam.trail } := rfl

theorem State.chan_endVector (s : State) (c : Chan) :
    s.endVector.chan c = { s.chan c with
      results := (s.chan c).results ++ (s.chan c).pendingStrikes.map fun k =>
        ⟨State.resolve { s with beam := { s.beam with trail := endNewest s.beam.clock s.beam.trail } } c k, k.echo⟩
      pendingStrikes := [] } := State.chan_completeBoth _ c

theorem State.endVector_frame (s : State) :
    s.endVector = { s with beam := s.endVector.beam, chans := s.endVector.chans } := rfl

/-! ### The appending of an entry -/

theorem Beam.append_eq (b : Beam) (e : Entry) :
    b.append e = { b with
      trail := (if 32 ≤ b.trail.length then b.trail.drop 1 else b.trail) ++ [e]
      dropped := b.dropped || decide (32 ≤ b.trail.length) } := by
  unfold Beam.append Config.trailMax
  by_cases full : 32 ≤ b.trail.length
  · simp [full, Nat.not_lt.mpr full]
  · simp [full, Nat.lt_of_not_le full]

theorem Beam.length_append_pos (b : Beam) (e : Entry) : 1 ≤ (b.append e).trail.length := by
  simp [Beam.append_eq]

/-- A trail within its limit of 32 stays within it (R10, R12). -/
theorem Beam.length_append_le {b : Beam} (e : Entry) (h : b.trail.length ≤ 32) : (b.append e).trail.length ≤ 32 := by
  rw [Beam.append_eq]
  split
  · simp only [List.length_append, List.length_drop, List.length_singleton]; omega
  · simp only [List.length_append, List.length_singleton]; omega

theorem State.beam_beginVector (s : State) (v : VectorNote) :
    (s.beginVector v).beam = s.endVector.beam.append (entryOf v s.beam.clock) := rfl

theorem State.chan_beginVector (s : State) (v : VectorNote) (c : Chan) :
    (s.beginVector v).chan c = s.endVector.chan c := rfl

theorem State.beginVector_frame (s : State) (v : VectorNote) :
    s.beginVector v = { s with beam := (s.beginVector v).beam, chans := (s.beginVector v).chans } := rfl

/-! ### When a note is handled -/

theorem State.frameOpen_iff (s : State) : s.frameOpen = true ↔ s.regs.device = .running ∧ s.beam.isOpen = true := by
  simp [State.frameOpen]

theorem State.frameOpen_eq_false {s : State} (h : s.regs.device ≠ .running ∨ s.beam.isOpen = false) : s.frameOpen = false := by
  rw [Bool.eq_false_iff, Ne, State.frameOpen_iff]
  rintro ⟨running, isOpen⟩
  rcases h with stopped | closed
  · exact stopped running
  · simp [closed] at isOpen

/-- With no frame end in progress a note acts at once, where it is handled; a note handled only in an OPEN frame (R1) is never one
that HALTED cuts short. -/
theorem State.settled_note {s : State} (quiet : s.frameQuiet) (handled : State → Bool) (f : State → State)
    (needsOpen : handled s = true → s.frameOpen = true) :
    (s.settleAll.andThen fun t => if handled t then f t else t) = if handled s then f s else s := by
  rw [State.settleAll_quiet quiet]
  by_cases halted : s.regs.device = .halted
  · have ignored : handled s = false := by
      rw [Bool.eq_false_iff]
      intro acts
      have running := (s.frameOpen_iff.mp (needsOpen acts)).1
      simp [halted] at running
    simp [State.andThen_halted _ halted, ignored]
  · rw [State.andThen_live _ halted]

theorem exec_vectorBegin_quiet {s : State} (v : VectorNote) (quiet : s.frameQuiet) :
    exec (.vectorBegin v) s = .next (if s.frameOpen then s.beginVector v else s) :=
  congrArg Host.Outcome.next (State.settled_note quiet State.frameOpen (·.beginVector v) id)

theorem exec_vectorEnd_quiet {s : State} (quiet : s.frameQuiet) :
    exec .vectorEnd s = .next (if s.frameOpen && newestUnended s.beam.trail then s.endVector else s) :=
  congrArg Host.Outcome.next (State.settled_note quiet (fun t => t.frameOpen && newestUnended t.beam.trail) State.endVector
    fun acts => (Bool.and_eq_true_iff.mp acts).1)

/-! ### The two notes -/

/-- Settles O15: the note is `beginVector`, whose channels are those of `endVector` and whose trail is the ended one with the entry
appended. -/
theorem vectorBeginAppends : Obligations.VectorBeginAppends := by
  intro s v quiet
  refine ⟨fun running isOpen => ⟨s.beginVector v, ?_, ?_, fun short => ⟨?_, ?_⟩, fun c => ?_, s.beginVector_frame v⟩,
    fun notHandled => ?_⟩
  · rw [exec_vectorBegin_quiet v quiet, if_pos (s.frameOpen_iff.mpr ⟨running, isOpen⟩)]
  · rw [State.beam_beginVector, Beam.append_eq, State.beam_endVector]
    simp only [length_endNewest]
    rfl
  · exact Beam.length_append_pos _ _
  · refine Beam.length_append_le _ ?_
    rw [State.beam_endVector, length_endNewest]
    exact short
  · rw [State.chan_beginVector, State.chan_endVector]
  · rw [exec_vectorBegin_quiet v quiet, State.frameOpen_eq_false notHandled]
    rfl

/-- Settles O16: the note is `endVector` where the newest entry is being drawn, and each ignored case fails a test of its guard. -/
theorem vectorEndEndsNewest : Obligations.VectorEndEndsNewest := by
  intro s quiet
  refine ⟨fun older e running isOpen trail unended => ⟨s.endVector, ?_, ?_, fun c => ?_, s.endVector_frame⟩,
    fun older e trail ended => ?_, fun empty => ?_, fun notHandled => ?_⟩
  · simp [exec_vectorEnd_quiet quiet, s.frameOpen_iff.mpr ⟨running, isOpen⟩, trail, unended]
  · rw [State.beam_endVector, trail, endNewest_concat, Entry.endAt_unended _ unended]
  · rw [State.chan_endVector, trail, endNewest_concat, Entry.endAt_unended _ unended]
  · simp [exec_vectorEnd_quiet quiet, trail, ended]
  · simp [exec_vectorEnd_quiet quiet, empty]
  · simp [exec_vectorEnd_quiet quiet, State.frameOpen_eq_false notHandled]

end Sys2Proof.Machine

/-! The request INJECT STRIKE (02_strike_lines_and_glare.md, R29), by way of any request whose block changes the channels
alone: its completion, what it keeps, and the echo byte that the status section then shows. -/

namespace Sys2Proof.Machine

/-! ### The channel of a request -/

theorem chanOf_chanField (c : Chan) : chanOf (chanField c) = some c := by cases c <;> rfl

theorem chanOf_namesNone {r : RequestArgs} (h : r.namesNone) : chanOf r.channel = none := by
  have notA : r.channel ≠ 0 := h .a
  have notB : r.channel ≠ 1 := h .b
  rw [chanOf, if_neg notA, if_neg notB]

theorem State.forEnabled_none (s : State) {r : RequestArgs} (f : Chan → State × ReqOutcome) (h : r.namesNone) :
    s.forEnabled r f = (s, .unknown) := by
  rw [State.forEnabled, State.forChan, chanOf_namesNone h]

theorem State.forEnabled_off {s : State} {r : RequestArgs} {c : Chan} (f : Chan → State × ReqOutcome)
    (h : r.channel = chanField c) (off : (s.chan c).mode = .off) : s.forEnabled r f = (s, .wrongState) := by
  rw [State.forEnabled, State.forChan, h, chanOf_chanField]
  exact if_pos off

theorem State.forEnabled_on {s : State} {r : RequestArgs} {c : Chan} (f : Chan → State × ReqOutcome)
    (h : r.channel = chanField c) (on : (s.chan c).mode ≠ .off) : s.forEnabled r f = f c := by
  rw [State.forEnabled, State.forChan, h, chanOf_chanField]
  exact if_neg on

/-! ### A request whose block changes the channels alone -/

/-- An accepted request is its completion, in the state that its block's work left, with the outcome that its block gave. -/
theorem State.request_eq_complete {s u : State} {code : BitVec 8} {r : RequestArgs} {o : ReqOutcome} (h : s.accepts r)
    (decided : (s.takenAt code r).dispatch code r = (u, o)) (live : u.regs.device ≠ .halted) :
    s.request code r = u.complete o := by
  obtain ⟨device, bus, frame, wf, nonzero, new⟩ := h
  have taken : ({ s.placeCell code r with requests := { s.requests with lastTaken := r.seq } } : State) = s.takenAt code r := by
    rw [State.placeCell_eq]
    rfl
  rw [State.request_taken code r device bus frame wf nonzero new, taken, decided]
  exact State.andThen_live _ live

/-- Taking a request writes no byte of memory outside its cell. -/
theorem State.read_takenAt (s : State) (code : BitVec 8) (r : RequestArgs) {k : Nat}
    (h : k < s.cellRange.1 ∨ s.cellRange.1 + s.cellRange.2 ≤ k) :
    Memory.read (s.takenAt code r).mem k = Memory.read s.mem k :=
  s.read_placeCell code r (by simp only [State.cellRange, State.area] at h ⊢; omega)

/-- An accepted request whose block changes the channels alone completes and keeps everything else; with the channels as
they were, this is `requestRefused`. -/
theorem State.request_chans {s : State} {code : BitVec 8} {r : RequestArgs} {o : ReqOutcome} {x : Pair Channel} (h : s.accepts r)
    (decided : (s.takenAt code r).dispatch code r = ({ s.takenAt code r with chans := x }, o)) :
    requestDone s (s.request code r) r o ∧ unrecorded s (s.request code r) ∧ (s.request code r).chans = x ∧
      (s.request code r).menus = s.menus ∧ (s.request code r).claims = s.claims ∧ (s.request code r).locks = s.locks ∧
      sameBlink s (s.request code r) ∧ sameExcept s (s.request code r) [s.cellRange, s.statusRange] := by
  obtain ⟨device, bus, frame, wf, nonzero, new⟩ := h
  have did := State.request_completed device bus frame wf nonzero new decided device bus (State.takenAt_mem code r wf)
  have regs : (s.request code r).regs = { s.regs with causes := { s.regs.causes with request := true } } := did.regs
  have registers : requestRegs s (s.request code r) := by simp [requestRegs, regs]
  have untouched : requestFrame s (s.request code r) :=
    ⟨did.pending, did.beam, did.inputs, did.idle, did.loader, did.work, did.busFault, did.outside, did.ticks, did.choices⟩
  have blink : sameBlink s (s.request code r) := by
    rw [sameBlink, did.feedback]
    exact ⟨rfl, rfl, rfl, rfl⟩
  have memory : sameExcept s (s.request code r) [s.cellRange, s.statusRange] := by
    intro k clear
    have cell := clear s.cellRange (by simp)
    have status := clear s.statusRange (by simp)
    calc Memory.read (s.request code r).mem k
        = Memory.read (s.takenAt code r).mem k := did.elsewhere k (by
          simp only [State.statusRange, State.area] at status
          simp only [State.area, State.takenAt]
          omega)
      _ = Memory.read s.mem k := s.read_takenAt code r cell
  exact ⟨⟨did.requests, did.shown, by rw [regs], registers, untouched⟩, ⟨did.log, by rw [regs], by rw [regs]⟩, did.chans,
    did.menus, did.claims, did.locks, blink, memory⟩

/-- An accepted request whose block does no work is refused. -/
theorem State.request_refused {s : State} {code : BitVec 8} {r : RequestArgs} {o : ReqOutcome} (h : s.accepts r)
    (decided : (s.takenAt code r).dispatch code r = (s.takenAt code r, o)) : requestRefused s (s.request code r) r o :=
  State.request_chans h decided

/-! ### The echo byte of the status section -/

/-- Where the "echo pending" flag of a channel stands in the common area (R181). -/
def echoOffset : Chan → Nat
  | .a => 0x69
  | .b => 0x79

theorem statusImage_echo (s : State) (c : Chan) :
    (statusImage s)[echoOffset c - 0x40]? = some (BitVec.ofNat 8 (s.chan c).echo.isPending.toNat) := by
  cases c <;> rfl

/-- A completed request shows the flag that its block's work left. -/
theorem State.areaBytes_complete_echo {u : State} (hb : u.busQuiet) (hw : Memory.wf u.mem) (o : ReqOutcome) (c : Chan) :
    (u.complete o).areaBytes (echoOffset c) 1 = [BitVec.ofNat 8 (u.chan c).echo.isPending.toNat] := by
  obtain ⟨bound, flag⟩ := List.getElem?_eq_some_iff.mp (statusImage_echo (u.completed o) c)
  have read := State.read_writeArea_in (s := u.completed o) 0x40 _ hw bound
  have offset : 0x40 + (echoOffset c - 0x40) = echoOffset c := by cases c <;> rfl
  rw [offset, flag] at read
  rw [State.complete_quiet hb]
  generalize statusImage (u.completed o) = image at read ⊢
  exact congrArg (fun b => [b]) read

/-! ### INJECT STRIKE -/

theorem Echo.isPending_iff (e : Echo) : e.isPending = true ↔ e ≠ .none := by cases e <;> simp [Echo.isPending]

theorem State.decideInject_late {s : State} {r : RequestArgs} {c : Chan} (h : r.channel = chanField c)
    (on : (s.chan c).mode ≠ .off) (late : 16777215 < r.second.toNat) : s.decideInject r = (s, .outOfRange) :=
  (State.forEnabled_on _ h on).trans (if_pos late)

theorem State.decideInject_busy {s : State} {r : RequestArgs} {c : Chan} (h : r.channel = chanField c)
    (on : (s.chan c).mode ≠ .off) (inRange : r.second.toNat ≤ 16777215)
    (busy : (s.chan c).mode = .glare ∨ (s.chan c).echo ≠ .none) : s.decideInject r = (s, .wrongState) := by
  rw [← Echo.isPending_iff] at busy
  exact (State.forEnabled_on _ h on).trans ((if_neg (Nat.not_lt.mpr inRange)).trans (if_pos busy))

theorem State.decideInject_done {s : State} {r : RequestArgs} {c : Chan} (h : r.channel = chanField c)
    (on : (s.chan c).mode ≠ .off) (inRange : r.second.toNat ≤ 16777215) (clear : (s.chan c).mode ≠ .glare)
    (idle : (s.chan c).echo = .none) :
    s.decideInject r = (s.onChan c fun x => { x with echo := .scheduled r.second.toNat }, .done) := by
  have free : ¬((s.chan c).mode = .glare ∨ (s.chan c).echo.isPending = true) := by
    rw [Echo.isPending_iff]
    exact not_or.mpr ⟨clear, not_not.mpr idle⟩
  exact (State.forEnabled_on _ h on).trans ((if_neg (Nat.not_lt.mpr inRange)).trans (if_neg free))

/-- Settles O54: each refusal is a decision that does no work; the DONE decision schedules the echo, whose flag the status section
shows. -/
theorem injectStrikeRequest : Obligations.InjectStrikeRequest := by
  intro s r accepted
  refine ⟨fun unnamed => ⟨_, rfl, State.request_refused accepted (State.forEnabled_none _ _ unnamed)⟩, fun c names =>
    ⟨fun off => ⟨_, rfl, State.request_refused accepted (State.forEnabled_off _ names (not_not.mp off))⟩,
    fun on late => ⟨_, rfl, State.request_refused accepted (State.decideInject_late names on late)⟩,
    fun on inRange busy => ⟨_, rfl, State.request_refused accepted (State.decideInject_busy names on inRange busy)⟩,
    fun on inRange clear idle => ?_⟩⟩
  have decided : (s.takenAt 15 r).dispatch 15 r = _ := State.decideInject_done names on inRange clear idle
  have chan := (s.takenAt 15 r).chan_onChan c fun x => { x with echo := .scheduled r.second.toNat }
  have other := (s.takenAt 15 r).chan_onChan_other c fun x => { x with echo := .scheduled r.second.toNat }
  have shown : (s.request 15 r).areaBytes (echoOffset c) 1 = [1] := by
    have ⟨device, bus, _, wf, _⟩ := accepted
    rw [State.request_eq_complete accepted decided device, State.areaBytes_complete_echo, chan]
    · rfl
    · exact bus
    · exact State.takenAt_mem 15 r wf
  obtain ⟨done, noRecord, chans, menus, claims, locks, blink, memory⟩ := State.request_chans accepted decided
  refine ⟨_, rfl, done, noRecord, ?_, ?_, ?_, menus, claims, locks, blink, memory⟩
  · rw [State.chan, chans]
    exact chan
  · rw [State.chan, chans]
    exact other
  · cases c with
    | a => exact shown
    | b => exact shown

end Sys2Proof.Machine

/-! The resolution of a strike (04_resolving_a_strike.md, R53 to R60): rounding and the point on the winning vector, the last best element of a
list, the ranking of the candidates, and from these the verdict. -/

namespace Sys2Proof.Machine

/-! ### Rounding: a correct rounding lies between integers that enclose the quotient -/

theorem isRounded_neg {q n : Int} {d : Nat} (h : isRounded q n d) : isRounded (-q) (-n) d := by
  have error : -q * d - -n = -(q * d - n) := by ring
  rw [isRounded, error, abs_neg, neg_mul, abs_neg, abs_neg]
  exact h

/-- The quotient of natural numbers: half the divisor is added before the division rounds down. -/
theorem isRounded_half_added (n : Nat) {d : Nat} (hd : 0 < d) : isRounded ((2 * n + d) / (2 * d) : Nat) n d := by
  have quotient := Nat.div_add_mod (2 * n + d) (2 * d)
  have remainder := Nat.mod_lt (2 * n + d) (Nat.mul_pos two_pos hd)
  generalize (2 * n + d) / (2 * d) = q at quotient ⊢
  have twice : 2 * d * q = 2 * (q * d) := by ring
  rw [isRounded, ← Nat.cast_mul, Nat.abs_cast, Nat.abs_cast]
  generalize q * d = product at *
  obtain ⟨error, _⟩ | ⟨error, _⟩ := abs_cases ((product : Int) - n)
  · omega
  · omega

theorem isRounded_roundDiv (n : Int) {d : Nat} (hd : 0 < d) : isRounded (roundDiv n d) n d := by
  have magnitude := isRounded_half_added n.natAbs hd
  rw [roundDiv]
  split
  next negative =>
    have value : n = -(n.natAbs : Int) := by omega
    rw [value, Int.natAbs_neg, Int.natAbs_natCast]
    exact isRounded_neg magnitude
  next nonnegative =>
    have value : (n.natAbs : Int) = n := by omega
    rwa [value] at magnitude

theorem isRounded.between {q n lo hi : Int} {d : Nat} (h : isRounded q n d) (hd : 0 < d) (hlo : lo * d ≤ n)
    (hhi : n ≤ hi * d) : lo ≤ q ∧ q ≤ hi := by
  obtain ⟨low, high⟩ := abs_le.mp (show |2 * (q * d - n)| ≤ d by rw [abs_mul]; exact h.1)
  have positive : (0 : Int) < d := Int.natCast_pos.mpr hd
  exact ⟨Int.lt_add_one_iff.mp (lt_of_mul_lt_mul_right (by linarith) positive.le),
    Int.lt_add_one_iff.mp (lt_of_mul_lt_mul_right (by linarith) positive.le)⟩

/-! ### The point and the position on the winning vector (R59, R60) -/

/-- A part `n` of `d` of a displacement lies between none of it and all of it, either way along the axis. -/
theorem part_between {n d : Nat} (h : n ≤ d) (v : Int) : min 0 v * d ≤ n * v ∧ n * v ≤ max 0 v * d := by
  have le : (n : Int) ≤ d := Int.ofNat_le.mpr h
  rcases le_total 0 v with forward | backward
  · rw [min_eq_left forward, max_eq_right forward, zero_mul, mul_comm v]
    exact ⟨mul_nonneg n.cast_nonneg forward, mul_le_mul_of_nonneg_right le forward⟩
  · rw [min_eq_right backward, max_eq_left backward, zero_mul, mul_comm v]
    exact ⟨mul_le_mul_of_nonpos_right le backward, mul_nonpos_of_nonneg_of_nonpos n.cast_nonneg backward⟩

theorem roundDiv_part_between {n d : Nat} (h : n ≤ d) (hd : 0 < d) (v : Int) :
    min 0 v ≤ roundDiv (n * v) d ∧ roundDiv (n * v) d ≤ max 0 v :=
  (isRounded_roundDiv _ hd).between hd (part_between h v).1 (part_between h v).2

theorem alongAxis_zero (v0 v1 n : Nat) : alongAxis v0 v1 n 0 = v0 := rfl

theorem alongVector_zero (e : Entry) (n : Nat) : alongVector e n 0 = e.start := rfl

theorem vectorPosition_zero (n : Nat) : vectorPosition n 0 = 0 := rfl

theorem alongAxis_cast (v0 v1 : Nat) {n d : Nat} (h : n ≤ d) (hd : 0 < d) :
    (alongAxis v0 v1 n d : Int) = v0 + roundDiv (n * ((v1 : Int) - v0)) d := by
  have bounds := roundDiv_part_between h hd ((v1 : Int) - v0)
  rw [alongAxis, if_neg hd.ne']
  omega

theorem isRounded_alongAxis (v0 v1 : Nat) {n d : Nat} (h : n ≤ d) (hd : 0 < d) :
    isRounded ((alongAxis v0 v1 n d : Int) - v0) (n * ((v1 : Int) - v0)) d := by
  rw [alongAxis_cast v0 v1 h hd, add_sub_cancel_left]
  exact isRounded_roundDiv _ hd

theorem alongAxis_between (v0 v1 : Nat) {n d : Nat} (h : n ≤ d) :
    min v0 v1 ≤ alongAxis v0 v1 n d ∧ alongAxis v0 v1 n d ≤ max v0 v1 := by
  obtain rfl | hd := d.eq_zero_or_pos
  · rw [alongAxis_zero]
    exact ⟨min_le_left _ _, le_max_left _ _⟩
  · have value := alongAxis_cast v0 v1 h hd
    have bounds := roundDiv_part_between h hd ((v1 : Int) - v0)
    omega

theorem vectorPosition_cast {n d : Nat} (h : n ≤ d) (hd : 0 < d) :
    (vectorPosition n d : Int) = roundDiv (n * 4096 : Nat) d ∧ vectorPosition n d ≤ 4096 := by
  have bounds := roundDiv_part_between h hd 4096
  rw [vectorPosition, if_neg hd.ne']
  push_cast
  omega

theorem hitOn_eq (e : Entry) (n d offset : Nat) : hitOn (e, e.begun + d, offset, e.begun + n) =
    ⟨e.group, e.tag, e.index, vectorPosition n d, alongVector e n d, offset, e.start⟩ := by
  rw [hitOn, Nat.add_sub_cancel_left, Nat.add_sub_cancel_left]

/-- Settles O28: on each axis the point is the start plus a correct rounding, which the ends of the vector enclose; so is the
position, which 0 and 4096 enclose. -/
theorem pointOnVector : Obligations.PointOnVector := by
  refine ⟨fun e n d h => ?_, fun e n d offset h => ⟨vectorPosition n d, hitOn_eq e n d offset, ?_, fun hd => ?_⟩⟩
  · obtain ⟨xLow, xHigh⟩ := alongAxis_between e.start.x e.finish.x h
    obtain ⟨yLow, yHigh⟩ := alongAxis_between e.start.y e.finish.y h
    refine ⟨?_, fun hd => ⟨isRounded_alongAxis _ _ h hd, isRounded_alongAxis _ _ h hd⟩, xLow, xHigh, yLow, yHigh⟩
    rintro rfl
    exact alongVector_zero e n
  · rintro rfl
    exact vectorPosition_zero n
  · obtain ⟨value, bound⟩ := vectorPosition_cast h hd
    rw [value]
    exact ⟨isRounded_roundDiv _ hd, bound⟩

/-! ### The last best element of a list -/

/-- `x` stands in the list with nothing above it under `le`, and everything after it strictly below. -/
def LastBest {α : Type} (le : α → α → Bool) (x : α) (l : List α) : Prop :=
  ∃ pre post, l = pre ++ x :: post ∧ (∀ y ∈ pre, le y x = true) ∧ ∀ y ∈ post, le x y = false

section
variable {α : Type} {le : α → α → Bool}

theorem LastBest.above (total : ∀ x y, le x y = false → le y x = true) (refl : ∀ x, le x x = true) {x y : α} {l : List α}
    (h : LastBest le x l) (member : y ∈ l) : le y x = true := by
  obtain ⟨pre, post, rfl, early, late⟩ := h
  rcases List.mem_append.mp member with inPre | inRest
  · exact early y inPre
  · rcases List.mem_cons.mp inRest with rfl | inPost
    · exact refl y
    · exact total x y (late y inPost)

theorem LastBest.concat (total : ∀ x y, le x y = false → le y x = true) (refl : ∀ x, le x x = true)
    (trans : ∀ x y z, le x y = true → le y z = true → le x z = true) {x : α} {l : List α} (h : LastBest le x l) (y : α) :
    LastBest le (if le x y then y else x) (l ++ [y]) := by
  split
  next better => exact ⟨l, [], rfl, fun z member => trans z x y (h.above total refl member) better, by simp⟩
  next worse =>
    obtain ⟨pre, post, rfl, early, late⟩ := h
    refine ⟨pre, post ++ [y], by simp, early, fun z member => ?_⟩
    rcases List.mem_append.mp member with inPost | last
    · exact late z inPost
    · rw [List.mem_singleton.mp last]
      exact Bool.eq_false_of_not_eq_true worse

theorem LastBest.foldl (total : ∀ x y, le x y = false → le y x = true) (refl : ∀ x, le x x = true)
    (trans : ∀ x y z, le x y = true → le y z = true → le x z = true) {x : α} {l : List α} (h : LastBest le x l)
    (ys : List α) : LastBest le (ys.foldl (fun best y => if le best y then y else best) x) (l ++ ys) := by
  induction ys generalizing x l with
  | nil => rwa [List.append_nil]
  | cons y ys ih =>
    rw [List.append_cons]
    exact ih (h.concat total refl trans y)

end

/-! ### The ranking of candidates (R58) -/

/-- One candidate comes before another by offset, pick class and begin. -/
def RanksBefore (t : Tables) (x y : Entry × Nat × Nat × Nat) : Prop :=
  x.2.2.1 < y.2.2.1 ∨ (x.2.2.1 = y.2.2.1 ∧ (t.pickClass y.1.group < t.pickClass x.1.group ∨
    (t.pickClass y.1.group = t.pickClass x.1.group ∧ y.1.begun < x.1.begun)))

/-- Only the positions of two candidates decide. -/
def RanksEqual (t : Tables) (x y : Entry × Nat × Nat × Nat) : Prop :=
  x.2.2.1 = y.2.2.1 ∧ t.pickClass x.1.group = t.pickClass y.1.group ∧ x.1.begun = y.1.begun

theorem betterCandidate_iff (t : Tables) (x y : Entry × Nat × Nat × Nat) :
    betterCandidate t x y = true ↔ RanksBefore t y x ∨ RanksEqual t y x := by
  rw [betterCandidate, RanksBefore, RanksEqual]
  split
  next offsets => rw [decide_eq_true_eq]; omega
  next offsets =>
    split
    next classes => rw [decide_eq_true_eq]; omega
    next classes => rw [decide_eq_true_eq]; omega

theorem betterCandidate_eq_false_iff (t : Tables) (x y : Entry × Nat × Nat × Nat) :
    betterCandidate t x y = false ↔ RanksBefore t x y := by
  rw [← Bool.not_eq_true, betterCandidate_iff, RanksBefore, RanksBefore, RanksEqual]
  omega

theorem betterCandidate_refl (t : Tables) (x : Entry × Nat × Nat × Nat) : betterCandidate t x x = true :=
  (betterCandidate_iff t x x).mpr (.inr ⟨rfl, rfl, rfl⟩)

theorem betterCandidate_total (t : Tables) (x y : Entry × Nat × Nat × Nat) (h : betterCandidate t x y = false) :
    betterCandidate t y x = true :=
  (betterCandidate_iff t y x).mpr (.inl ((betterCandidate_eq_false_iff t x y).mp h))

theorem betterCandidate_trans (t : Tables) (x y z : Entry × Nat × Nat × Nat) (xy : betterCandidate t x y = true)
    (yz : betterCandidate t y z = true) : betterCandidate t x z = true := by
  rw [betterCandidate_iff, RanksBefore, RanksEqual] at *
  omega

theorem bestCandidate_eq_none_iff (t : Tables) (l : List (Entry × Nat × Nat × Nat)) : bestCandidate t l = none ↔ l = [] := by
  cases l <;> simp [bestCandidate]

theorem bestCandidate_lastBest {t : Tables} {x : Entry × Nat × Nat × Nat} {l : List (Entry × Nat × Nat × Nat)}
    (h : bestCandidate t l = some x) : LastBest (betterCandidate t) x l := by
  cases l with
  | nil => cases h
  | cons y ys =>
    obtain rfl := Option.some.inj h
    have alone : LastBest (betterCandidate t) y [y] := ⟨[], [], rfl, by simp, by simp⟩
    exact alone.foldl (betterCandidate_total t) (betterCandidate_refl t) (betterCandidate_trans t) ys

/-- The winner among the elements that pass a test, placed in the whole list. -/
theorem bestCandidate_filter {t : Tables} {x : Entry × Nat × Nat × Nat} {l : List (Entry × Nat × Nat × Nat)}
    {p : Entry × Nat × Nat × Nat → Bool} (h : bestCandidate t (l.filter p) = some x) :
    ∃ pre post, l = pre ++ x :: post ∧ p x = true ∧ (∀ y ∈ pre, p y = true → RanksBefore t x y ∨ RanksEqual t x y) ∧
      ∀ y ∈ post, p y = true → RanksBefore t x y := by
  obtain ⟨early, late, parts, above, below⟩ := bestCandidate_lastBest h
  obtain ⟨front, back, rfl, rfl, rest⟩ := List.filter_eq_append_iff.mp parts
  obtain ⟨refused, post, rfl, noneMay, may, rfl⟩ := List.filter_eq_cons_iff.mp rest
  refine ⟨front ++ refused, post, by simp, may, fun y member permitted => ?_, fun y member permitted => ?_⟩
  · rcases List.mem_append.mp member with inFront | inRefused
    · exact (betterCandidate_iff t y x).mp (above y (List.mem_filter.mpr ⟨inFront, permitted⟩))
    · exact absurd permitted (noneMay y inRefused)
  · exact (betterCandidate_eq_false_iff t x y).mp (below y (List.mem_filter.mpr ⟨member, permitted⟩))

/-! ### The verdict (R57) -/

theorem trailShort_iff (b : Beam) (w tc : Nat) :
    trailShort b w tc = true ↔ b.dropped = true ∧ ∃ e rest, b.trail = e :: rest ∧ tc < e.begun + w := by
  cases h : b.trail <;> simp [trailShort, h]

/-- The candidates of a strike, in trail order. -/
def State.candidates (s : State) (c : Chan) (k : Strike) : List (Entry × Nat × Nat × Nat) :=
  s.beam.trail.filterMap (candidate (s.chanConfig c).aperture k)

/-- Whether the Permission Unit permits the channel a candidate. -/
def State.mayPick (s : State) (c : Chan) (x : Entry × Nat × Nat × Nat) : Bool :=
  s.permits s.claims.entries c x.1.group x.1.tag

section
variable {s : State} {c : Chan} {k : Strike}

theorem State.resolve_trailShort (short : trailShort s.beam (s.chanConfig c).aperture k.tc = true) :
    s.resolve c k = .trailShort := if_pos short

theorem State.resolve_blank (long : ¬trailShort s.beam (s.chanConfig c).aperture k.tc = true) (empty : s.candidates c k = []) :
    s.resolve c k = .blank := (if_neg long).trans (if_pos (List.isEmpty_iff.mpr empty))

theorem State.resolve_forbidden (long : ¬trailShort s.beam (s.chanConfig c).aperture k.tc = true)
    (examined : s.candidates c k ≠ []) (best : bestCandidate s.tables ((s.candidates c k).filter (s.mayPick c)) = none) :
    s.resolve c k = .forbidden := by
  refine (if_neg long).trans ((if_neg (mt List.isEmpty_iff.mp examined)).trans ?_)
  split
  next => rfl
  next y winner => cases winner.symm.trans best

theorem State.resolve_resolved (long : ¬trailShort s.beam (s.chanConfig c).aperture k.tc = true)
    (examined : s.candidates c k ≠ []) {x : Entry × Nat × Nat × Nat}
    (best : bestCandidate s.tables ((s.candidates c k).filter (s.mayPick c)) = some x) :
    s.resolve c k = .resolved (hitOn x) := by
  refine (if_neg long).trans ((if_neg (mt List.isEmpty_iff.mp examined)).trans ?_)
  split
  next lacking => cases lacking.symm.trans best
  next y winner =>
    cases winner.symm.trans best
    rfl

/-- The four ways a strike resolves, each with what decides it. -/
theorem State.resolve_cases (s : State) (c : Chan) (k : Strike) :
    (trailShort s.beam (s.chanConfig c).aperture k.tc = true ∧ s.resolve c k = .trailShort) ∨
    (¬trailShort s.beam (s.chanConfig c).aperture k.tc = true ∧
      ((s.candidates c k = [] ∧ s.resolve c k = .blank) ∨
        (s.candidates c k ≠ [] ∧ (∀ x ∈ s.candidates c k, ¬s.mayPick c x = true) ∧ s.resolve c k = .forbidden) ∨
        ∃ x, bestCandidate s.tables ((s.candidates c k).filter (s.mayPick c)) = some x ∧
          s.resolve c k = .resolved (hitOn x))) := by
  by_cases long : trailShort s.beam (s.chanConfig c).aperture k.tc = true
  · exact .inl ⟨long, State.resolve_trailShort long⟩
  refine .inr ⟨long, ?_⟩
  by_cases examined : s.candidates c k = []
  · exact .inl ⟨examined, State.resolve_blank long examined⟩
  refine .inr ?_
  cases best : bestCandidate s.tables ((s.candidates c k).filter (s.mayPick c)) with
  | none =>
    have refused := List.filter_eq_nil_iff.mp ((bestCandidate_eq_none_iff _ _).mp best)
    exact .inl ⟨examined, refused, State.resolve_forbidden long examined best⟩
  | some x => exact .inr ⟨x, rfl, State.resolve_resolved long examined best⟩

end

/-- Settles O27: in each of the four ways a strike resolves, what decides it excludes the other verdicts; the ranking places the
winner among the permitted candidates. -/
theorem strikeVerdict : Obligations.StrikeVerdict := by
  intro s c k w near may class_ before tied
  rw [← trailShort_iff]
  rcases s.resolve_cases c k with ⟨short, verdict⟩ | ⟨long, ways⟩
  · exact ⟨iff_of_true verdict short, fun other => absurd verdict other⟩
  rcases ways with ⟨empty, verdict⟩ | ⟨examined, refused, verdict⟩ | ⟨x, best, verdict⟩
  · rw [verdict]
    exact ⟨iff_of_false nofun long, fun _ =>
      ⟨iff_of_true rfl empty, iff_of_false nofun fun other => other.1 empty, nofun⟩⟩
  · rw [verdict]
    exact ⟨iff_of_false nofun long, fun _ =>
      ⟨iff_of_false nofun examined, iff_of_true rfl ⟨examined, refused⟩, nofun⟩⟩
  · obtain ⟨pre, post, parts, permitted, early, late⟩ := bestCandidate_filter best
    have member : x ∈ near := by
      have placed : near = pre ++ x :: post := parts
      simp [placed]
    rw [verdict]
    refine ⟨iff_of_false nofun long, fun _ => ⟨iff_of_false nofun (List.ne_nil_of_mem member),
      iff_of_false nofun fun other => other.2 x member permitted, ?_⟩⟩
    rintro h ⟨⟩
    exact ⟨pre, x, post, parts, permitted, rfl, early, late⟩

end Sys2Proof.Machine

/-! The Permission Unit (05_pick_permission.md): its answer to every question, from what each of its tests says (R68, R71), and the
four lock requests (R76, R77), by way of any request whose block works without a record. -/

namespace Sys2Proof.Machine

/-! ### The tests of the answer -/

theorem isArmTag_iff (c : Chan) (tag : Nat) : isArmTag c tag = true ↔ armBase c ≤ tag ∧ tag ≤ armBase c + 3 := by
  rw [isArmTag, decide_eq_true_iff, Nat.lt_succ_iff]

theorem Sheet.live_isSome_iff (sh : Sheet) (tag : Nat) :
    (sh.live tag).isSome = true ↔ ∃ b ∈ sh.buttons, b.tag = tag ∧ b.inert = false := by
  simp [Sheet.live]

/-- A guard span leaves a tag free (R74). -/
def outsideGuard (d : GuardDir) (e tag : Nat) : Prop :=
  match d with
  | .none => True
  | .upper => tag < 65536 - 2 ^ e
  | .lower => 2 ^ e ≤ tag
  | .all => False

theorem guards_eq_false_iff (d : GuardDir) (e tag : Nat) : guards d e tag = false ↔ outsideGuard d e tag := by
  cases d with
  | none => exact iff_of_true rfl trivial
  | upper => exact decide_eq_false_iff_not.trans Nat.not_le
  | lower => exact decide_eq_false_iff_not.trans Nat.not_lt
  | all => exact iff_of_false nofun id

theorem claimRefuses_eq_false_iff (claims : List Claim) (c : Chan) (tag : Nat) :
    claimRefuses claims c tag = false ↔ ∀ k ∈ claims, k.tag = tag → k.holder = .pen c := by
  simp [claimRefuses]

/-- None of the five refusals of R71 holds. -/
theorem State.drawingRefused_eq_false_iff (s : State) (claims : List Claim) (c : Chan) (g tag : Nat) :
    s.drawingRefused claims c g tag = false ↔
      (s.topSheet c).modal = false ∧ s.tables.pickClass g ≠ 0 ∧ s.locked c g = false ∧
        outsideGuard (s.chanConfig c).guardDir (s.chanConfig c).guardExp tag ∧
        ∀ k ∈ claims, k.tag = tag → k.holder = .pen c := by
  rw [← guards_eq_false_iff, ← claimRefuses_eq_false_iff]
  simp [State.drawingRefused, and_assoc]

/-! ### The answer by state and group -/

section

variable {s : State} {c : Chan} (claims : List Claim) {g : Nat} (tag : Nat)

theorem State.permits_tracks (tracks : (s.chan c).mode = .tracking ∨ (s.chan c).mode = .suspended) :
    s.permits claims c g tag = (g == 63 && isArmTag c tag) := if_pos tracks

variable (free : ¬((s.chan c).mode = .tracking ∨ (s.chan c).mode = .suspended))
include free

theorem State.permits_crossGroup : s.permits claims c 63 tag = false :=
  (if_neg free).trans (if_pos rfl)

theorem State.permits_menuGroup (menu : g = 61 ∨ g = 62) :
    s.permits claims c g tag = (g == menuGroup c && ((s.topSheet c).live tag).isSome) :=
  (if_neg free).trans ((if_neg (by omega)).trans (if_pos menu))

theorem State.permits_drawing (drawing : g ≤ 60) : s.permits claims c g tag = !s.drawingRefused claims c g tag := by
  rw [State.permits, if_neg free, if_neg (by omega), if_neg (by omega), decide_eq_true drawing, Bool.true_and]

end

/-- Settles O30: one case for each branch of the answer, read off its tests. -/
theorem permissionAnswers : Obligations.PermissionAnswers := by
  intro s claims c g tag _ _ tracks
  refine ⟨fun tracking => ?_, fun free cross => ?_, fun free menu => ?_, fun free drawing => ?_⟩
  · rw [State.permits_tracks claims tag tracking, Bool.and_eq_true_iff, beq_iff_eq, isArmTag_iff]
  · rw [cross, State.permits_crossGroup claims tag free]
  · rw [State.permits_menuGroup claims tag free menu, Bool.and_eq_true_iff]
    exact and_congr beq_iff_eq (Sheet.live_isSome_iff _ _)
  · rw [State.permits_drawing claims tag free drawing, Bool.not_eq_true']
    exact s.drawingRefused_eq_false_iff claims c g tag

/-! ### A request whose block works without a record -/

/-- An accepted request whose block changes only the channels, the menus, the claims and the locks completes and keeps everything
else; `State.request_chans` is the case of the channels alone. -/
theorem State.request_worked {s : State} {code : BitVec 8} {r : RequestArgs} {o : ReqOutcome} {chans : Pair Channel}
    {menus : Pair Menu} {claims : ClaimTable} {locks : Pair (Vector Bool 61)} (h : s.accepts r)
    (decided : (s.takenAt code r).dispatch code r =
      ({ s.takenAt code r with chans := chans, menus := menus, claims := claims, locks := locks }, o)) :
    requestDone s (s.request code r) r o ∧ unrecorded s (s.request code r) ∧ (s.request code r).chans = chans ∧
      (s.request code r).menus = menus ∧ (s.request code r).claims = claims ∧ (s.request code r).locks = locks ∧
      sameBlink s (s.request code r) ∧ sameExcept s (s.request code r) [s.cellRange, s.statusRange] := by
  obtain ⟨device, bus, frame, wf, nonzero, new⟩ := h
  have did := State.request_completed device bus frame wf nonzero new decided device bus (State.takenAt_mem code r wf)
  have regs : (s.request code r).regs = { s.regs with causes := { s.regs.causes with request := true } } := did.regs
  have memory : sameExcept s (s.request code r) [s.cellRange, s.statusRange] := by
    intro k clear
    refine (did.elsewhere k ?_).trans (s.read_takenAt code r (clear s.cellRange (by simp)))
    have status := clear s.statusRange (by simp)
    simp only [State.statusRange, State.area] at status
    simp only [State.area, State.takenAt]
    omega
  refine ⟨⟨did.requests, did.shown, ?_, ?_, did.pending, did.beam, did.inputs, did.idle, did.loader, did.work, did.busFault,
    did.outside, did.ticks, did.choices⟩, ⟨did.log, ?_, ?_⟩, did.chans, did.menus, did.claims, did.locks, ?_, memory⟩
  · rw [regs]
  · simp [requestRegs, regs]
  · rw [regs]
  · rw [regs]
  · rw [sameBlink, did.feedback]
    exact ⟨rfl, rfl, rfl, rfl⟩

/-! ### The lock flags -/

theorem Pair.get_set {α : Type} (p : Pair α) (c d : Chan) (v : α) : (p.set c v).get d = if d = c then v else p.get d := by
  split
  next same => rw [same, Pair.get_set_same]
  next other => exact Pair.get_set_ne p v other

theorem State.locked_setLock (s : State) (c d : Chan) {g : Nat} (h : Nat) (v : Bool) (bound : g ≤ 60) :
    (s.setLock c g v).locked d h = if d = c ∧ h = g then v else s.locked d h := by
  rw [State.locked, State.setLock, Pair.get_set]
  by_cases chan : d = c
  · by_cases group : h = g
    · simp [chan, group, Nat.lt_succ_of_le bound]
    · simp [chan, group, Ne.symm group, State.locked]
  · simp [chan, State.locked]

theorem State.locked_setLocks (s : State) (c d : Chan) {g : Nat} (v : Bool) (bound : g ≤ 60) :
    (s.setLocks c v).locked d g = if d = c then v else s.locked d g := by
  rw [State.locked, State.setLocks, Pair.get_set]
  split
  · simp [Nat.lt_succ_of_le bound]
  · rfl

theorem State.locked_congr {s t : State} (h : s.locks = t.locks) (c : Chan) (g : Nat) : s.locked c g = t.locked c g := by
  rw [State.locked, State.locked, h]

/-! ### The lock requests -/

theorem State.forChan_none (s : State) {r : RequestArgs} (f : Chan → State × ReqOutcome) (h : r.namesNone) :
    s.forChan r f = (s, .unknown) := by
  rw [State.forChan, chanOf_namesNone h]

theorem State.forChan_some (s : State) {r : RequestArgs} {c : Chan} (f : Chan → State × ReqOutcome)
    (h : r.channel = chanField c) : s.forChan r f = f c := by
  rw [State.forChan, h, chanOf_chanField]

theorem State.decideLock_outOfRange (s : State) {r : RequestArgs} {c : Chan} (v : Bool) (h : r.channel = chanField c)
    (high : 60 < r.first.toNat) : s.decideLock r v = (s, .outOfRange) :=
  (s.forChan_some _ h).trans (if_pos high)

theorem State.decideLock_done (s : State) {r : RequestArgs} {c : Chan} (v : Bool) (h : r.channel = chanField c)
    (bound : r.first.toNat ≤ 60) : s.decideLock r v = (s.setLock c r.first.toNat v, .done) :=
  (s.forChan_some _ h).trans (if_neg (Nat.not_lt.mpr bound))

theorem State.decideLockAll_done (s : State) {r : RequestArgs} {c : Chan} (v : Bool) (h : r.channel = chanField c) :
    s.decideLockAll r v = (s.setLocks c v, .done) :=
  s.forChan_some _ h

/-- The code of LOCK GROUP, or of UNLOCK GROUP (section 12.5). -/
def lockCode (v : Bool) : BitVec 8 := if v then 1 else 2

/-- The code of LOCK ALL, or of UNLOCK ALL (section 12.5). -/
def lockAllCode (v : Bool) : BitVec 8 := if v then 3 else 4

theorem State.dispatch_lockCode (s : State) (r : RequestArgs) (v : Bool) : s.dispatch (lockCode v) r = s.decideLock r v := by
  cases v <;> rfl

theorem State.dispatch_lockAllCode (s : State) (r : RequestArgs) (v : Bool) :
    s.dispatch (lockAllCode v) r = s.decideLockAll r v := by
  cases v <;> rfl

theorem exec_lockGroup (s : State) (r : RequestArgs) (v : Bool) :
    exec (if v then .lockGroup r else .unlockGroup r) s = .next (s.request (lockCode v) r) := by
  cases v <;> rfl

theorem exec_lockAll (s : State) (r : RequestArgs) (v : Bool) :
    exec (if v then .lockAll r else .unlockAll r) s = .next (s.request (lockAllCode v) r) := by
  cases v <;> rfl

/-- Settles O47: each refusal is a decision that does no work, and the work of a DONE decision is on the lock flags alone. -/
theorem lockRequests : Obligations.LockRequests := by
  intro s r v accepted one all flagsOnly
  have one_next : exec one s = .next (s.request (lockCode v) r) := exec_lockGroup s r v
  have all_next : exec all s = .next (s.request (lockAllCode v) r) := exec_lockAll s r v
  have decided_one := (s.takenAt (lockCode v) r).dispatch_lockCode r v
  have decided_all := (s.takenAt (lockAllCode v) r).dispatch_lockAllCode r v
  refine ⟨fun unnamed => ⟨_, one_next, State.request_refused accepted ?_⟩,
    fun unnamed => ⟨_, all_next, State.request_refused accepted ?_⟩, fun c names =>
    ⟨fun high => ⟨_, one_next, State.request_refused accepted ?_⟩, fun bound => ⟨_, one_next, ?_⟩, ⟨_, all_next, ?_⟩⟩⟩
  · exact decided_one.trans (State.forChan_none _ _ unnamed)
  · exact decided_all.trans (State.forChan_none _ _ unnamed)
  · exact decided_one.trans (State.decideLock_outOfRange _ v names high)
  · obtain ⟨done, noRecord, chans, menus, claims, locks, blink, memory⟩ :=
      State.request_worked accepted (decided_one.trans (State.decideLock_done _ v names bound))
    refine ⟨done, ⟨noRecord, chans, menus, claims, blink, memory⟩, fun d g => ?_⟩
    exact (State.locked_congr locks d g).trans (s.locked_setLock c d g v bound)
  · obtain ⟨done, noRecord, chans, menus, claims, locks, blink, memory⟩ :=
      State.request_worked accepted (decided_all.trans (State.decideLockAll_done _ v names))
    refine ⟨done, ⟨noRecord, chans, menus, claims, blink, memory⟩, fun d g bound => ?_⟩
    exact (State.locked_congr locks d g).trans (s.locked_setLocks c d v bound)

end Sys2Proof.Machine

/-! The Claim Table's part in the requests and the permission (08_tracking_and_claims.md): who holds a tag, the refusal that a claim
of the host program means for both pens (R71, R79), and the request CLAIM (R125). -/

namespace Sys2Proof.Machine

/-! ### The holder of a tag -/

theorem holderOf_isSome_iff (claims : List Claim) (tag : Nat) :
    (holderOf claims tag).isSome = true ↔ ∃ k ∈ claims, k.tag = tag := by
  simp [holderOf]

/-! ### What a claim refuses -/

/-- A claim of the host program refuses its tag to both pens (R79). -/
theorem claimRefuses_of_program {claims : List Claim} {tag : Nat} (held : ⟨tag, .program⟩ ∈ claims) (c : Chan) :
    claimRefuses claims c tag = true := by
  rw [← Bool.not_eq_false, claimRefuses_eq_false_iff]
  intro ownPen
  have program_is_pen : Holder.program = .pen c := ownPen _ held rfl
  cases program_is_pen

/-- A tag that a claim refuses to a channel is permitted to it in no drawing group: a tracking channel may pick only in group 63,
and any other is refused by R71. -/
theorem State.permits_drawing_of_claimRefuses (s : State) {claims : List Claim} {c : Chan} {g tag : Nat}
    (refuses : claimRefuses claims c tag = true) (drawing : g ≤ 60) : s.permits claims c g tag = false := by
  by_cases tracks : (s.chan c).mode = .tracking ∨ (s.chan c).mode = .suspended
  · have notArms : (g == 63) = false := beq_false_of_ne (by omega)
    rw [State.permits_tracks claims tag tracks, notArms, Bool.false_and]
  · have refused : s.drawingRefused claims c g tag = true := by rw [State.drawingRefused, refuses, Bool.or_true]
    rw [State.permits_drawing claims tag tracks drawing, refused, Bool.not_true]

/-! ### CLAIM -/

theorem State.decideClaim_held {s : State} {r : RequestArgs} (held : ∃ k ∈ s.claims.entries, k.tag = r.first.toNat) :
    s.decideClaim r = (s, .wrongState) :=
  if_pos ((holderOf_isSome_iff _ _).mpr held)

theorem State.decideClaim_full {s : State} {r : RequestArgs} (free : ¬∃ k ∈ s.claims.entries, k.tag = r.first.toNat)
    (full : 8 ≤ s.claims.entries.length) : s.decideClaim r = (s, .tableFull) :=
  (if_neg (mt (holderOf_isSome_iff _ _).mp free)).trans (if_pos full)

theorem State.decideClaim_done {s : State} {r : RequestArgs} (free : ¬∃ k ∈ s.claims.entries, k.tag = r.first.toNat)
    (room : s.claims.entries.length < 8) :
    s.decideClaim r = (s.onClaims fun e => e ++ [⟨r.first.toNat, .program⟩], .done) :=
  (if_neg (mt (holderOf_isSome_iff _ _).mp free)).trans (if_neg (Nat.not_le.mpr room))

/-- Settles O48: each refusal is a decision that does no work; the work of the DONE decision is on the Claim Table alone, and its new
entry refuses the tag to both pens. -/
theorem claimRequest : Obligations.ClaimRequest := by
  intro s r accepted held
  refine ⟨fun taken => ⟨_, rfl, State.request_refused accepted (State.decideClaim_held taken)⟩,
    fun free full => ⟨_, rfl, State.request_refused accepted (State.decideClaim_full free full)⟩,
    fun free room => ⟨_, rfl, ?_⟩⟩
  have decided : (s.takenAt 5 r).dispatch 5 r = _ := State.decideClaim_done free room
  obtain ⟨done, noRecord, chans, menus, claims, locks, blink, memory⟩ := State.request_worked accepted decided
  refine ⟨done, claims, fun c g drawing => ?_, noRecord, chans, menus, locks, blink, memory⟩
  have joined : ⟨r.first.toNat, .program⟩ ∈ (s.request 5 r).claims.entries := by
    rw [claims]
    exact List.mem_append_right _ List.mem_cons_self
  exact State.permits_drawing_of_claimRefuses _ (claimRefuses_of_program joined c) drawing

end Sys2Proof.Machine

section
/-! The proofs of this section are elaborated one after another: side by side their threads pass the memory that a check may take. -/

set_option Elab.async false

/-! What a step can do, said once. An act is a primitive update that leaves the frame, the installed tables, the channels' states, the
claims and the owed steps as they are; a move may reach a channel's state, the claims and the owed steps too, and a turn the rest. Each
operation of the model is a chain of these, and a law that every turn keeps is kept by every step. -/

namespace Sys2Proof.Machine

/-! ### Acts -/

/-- `t` differs from `s` only in what no law speaks of, or as the Log Writer and the bus may change it. -/
structure Aside (s t : State) : Prop where
  beam : t.beam = s.beam := by rfl
  chan : ∀ c, t.chan c = { s.chan c with glareTimer := (t.chan c).glareTimer } := by intro _; rfl
  menus : t.menus = s.menus := by rfl
  entries : t.claims.entries = s.claims.entries := by rfl
  asks : t.claims.asks = s.claims.asks := by rfl
  owed : t.work.owed = s.work.owed := by rfl
  active : t.work.active = s.work.active := by rfl
  tables : t.loader.tables = s.loader.tables := by rfl
  loads : t.loader.loads = s.loader.loads := by rfl
  areaBase : t.regs.areaBase = s.regs.areaBase := by rfl
  device : t.regs.device = s.regs.device ∨ t.regs.device = .halted := by exact .inl rfl
  log : s.log.law → t.log.law := by exact id
  wf : Memory.wf s.mem → Memory.wf t.mem := by exact id

/-- A channel's new value keeps what the laws say of a channel. -/
structure State.Keeps (s : State) (c : Chan) (y : Channel) : Prop where
  strikes : (s.chan c).strikeLaw → y.strikeLaw := by exact id
  pending : s.beam.isOpen = false → (s.chan c).pendingStrikes = [] → y.pendingStrikes = [] := by exact fun _ => id
  echo : (s.chan c).echo.law → y.echo.law := by exact id
  delay : s.config.delayLaw → (s.chan c).delayLaw → y.delayLaw := by exact fun _ => id
  table : tableLaw (s.chan c).table → tableLaw y.table := by exact id
  collection : collectionLaw (s.chan c).collection → collectionLaw y.collection := by exact id
  remaining : (s.chan c).collection.map Collection.remaining ≠ some 0 → y.collection.map Collection.remaining ≠ some 0 := by
    exact id

/-- What the law of the menus says of one channel's menu. -/
def State.menuLaws (s : State) (m : Menu) : Prop := m.law ∧ m.armedLaw ∧ ∀ n ∈ m.stack, n < s.tables.sheets.length

/-- What the laws say of the load state of one table. -/
def Load.lawful (x : Load) (t : TableId) : Prop := (t ≠ .menu → x.noMenu) ∧ (t = .menu → x.menuLaw) ∧ x.delayLaw

/-- A primitive update that reaches neither the frame nor the installed tables, and no channel's state, claim or owed step. -/
inductive Act : State → State → Prop
  | aside {s t : State} (h : Aside s t) : Act s t
  | revised {s : State} (c : Chan) (y : Channel) (h : s.Keeps c y) (mode : y.mode = (s.chan c).mode)
      (tracked : y.tracked = (s.chan c).tracked) : Act s (s.setChan c y)
  /-- A pick joins a collection, and its record is handed on. -/
  | picked {s t : State} (c : Chan) (k : Option Collection) (live : s.regs.device ≠ .halted)
      (law : (s.chan c).collection.map Collection.remaining ≠ some 0 → collectionLaw (s.chan c).collection → collectionLaw k)
      (h : Aside (s.onChan c fun x => { x with collection := k }) t)
      (rest : t.regs.device = .halted ∨ k.map Collection.remaining ≠ some 0) : Act s t
  | menued {s : State} (c : Chan) (m : Menu)
      (h : menuTableLaw s.tables.sheets → s.menuLaws (s.menu c) → s.menuLaws m) : Act s { s with menus := s.menus.set c m }
  | loaded {s : State} (t : TableId) (x : Load) (h : x.lawful t) : Act s (s.setLoad t x)

/-- A chain of acts. -/
abbrev Acts : State → State → Prop := Relation.ReflTransGen Act

/-! ### What acts leave as it is -/

/-- `t` has the frame, the tables in use, the channels' states, the claims and the owed steps of `s`, and the device state unless it
has entered HALTED. -/
structure Settled (s t : State) : Prop where
  beam : t.beam = s.beam := by rfl
  tables : t.loader.tables = s.loader.tables := by rfl
  mode : ∀ c, (t.chan c).mode = (s.chan c).mode := by intro _; rfl
  tracked : ∀ c, (t.chan c).tracked = (s.chan c).tracked := by intro _; rfl
  entries : t.claims.entries = s.claims.entries := by rfl
  asks : t.claims.asks = s.claims.asks := by rfl
  owed : t.work.owed = s.work.owed := by rfl
  active : t.work.active = s.work.active := by rfl
  device : t.regs.device = s.regs.device ∨ t.regs.device = .halted := by exact .inl rfl
  areaBase : t.regs.areaBase = s.regs.areaBase := by rfl

theorem Settled.refl (s : State) : Settled s s := {}

theorem Settled.trans {s t u : State} (h : Settled s t) (k : Settled t u) : Settled s u where
  beam := k.beam.trans h.beam
  tables := k.tables.trans h.tables
  mode := fun c => (k.mode c).trans (h.mode c)
  tracked := fun c => (k.tracked c).trans (h.tracked c)
  entries := k.entries.trans h.entries
  asks := k.asks.trans h.asks
  owed := k.owed.trans h.owed
  active := k.active.trans h.active
  device := k.device.elim (fun e => e ▸ h.device) .inr
  areaBase := k.areaBase.trans h.areaBase

theorem Settled.live {s t : State} (h : Settled s t) (live : t.regs.device ≠ .halted) : t.regs.device = s.regs.device :=
  h.device.resolve_right live

theorem Aside.trans {s t u : State} (h : Aside s t) (k : Aside t u) : Aside s u where
  beam := k.beam.trans h.beam
  chan := fun c => by rw [k.chan c, h.chan c]
  menus := k.menus.trans h.menus
  entries := k.entries.trans h.entries
  asks := k.asks.trans h.asks
  owed := k.owed.trans h.owed
  active := k.active.trans h.active
  tables := k.tables.trans h.tables
  loads := k.loads.trans h.loads
  areaBase := k.areaBase.trans h.areaBase
  device := k.device.elim (fun e => e ▸ h.device) .inr
  log := fun law => k.log (h.log law)
  wf := fun w => k.wf (h.wf w)

theorem Aside.settled {s t : State} (h : Aside s t) : Settled s t :=
  ⟨h.beam, h.tables, fun c => by rw [h.chan c], fun c => by rw [h.chan c], h.entries, h.asks, h.owed, h.active, h.device,
    h.areaBase⟩

/-- A channel replaced keeps of each channel what the new value keeps of the old. -/
theorem State.setChan_keeps {α : Type} (s : State) {c : Chan} {y : Channel} (f : Channel → α) (h : f y = f (s.chan c)) (d : Chan) :
    f ((s.setChan c y).chan d) = f (s.chan d) := by
  by_cases e : d = c
  · subst e
    rw [State.chan_setChan, h]
  · rw [State.chan_setChan_ne s y e]

theorem Act.settled {s t : State} (h : Act s t) : Settled s t := by
  cases h with
  | aside h => exact h.settled
  | revised c y _ mode tracked =>
    exact { mode := s.setChan_keeps Channel.mode mode, tracked := s.setChan_keeps Channel.tracked tracked }
  | picked c k _ _ h _ =>
    have joined : Settled s (s.onChan c fun x => { x with collection := k }) :=
      { mode := s.setChan_keeps Channel.mode rfl, tracked := s.setChan_keeps Channel.tracked rfl }
    exact joined.trans h.settled
  | menued c m _ => exact {}
  | loaded i x _ => exact {}

theorem Acts.settled {s t : State} (h : Acts s t) : Settled s t := by
  induction h with
  | refl => exact Settled.refl s
  | tail _ act ih => exact ih.trans act.settled

/-- A channel update that keeps the channel's state. -/
theorem Acts.onChan {s : State} {c : Chan} {f : Channel → Channel} (h : s.Keeps c (f (s.chan c)))
    (mode : (f (s.chan c)).mode = (s.chan c).mode := by rfl) (tracked : (f (s.chan c)).tracked = (s.chan c).tracked := by rfl) :
    Acts s (s.onChan c f) := .single (.revised c _ h mode tracked)

theorem Acts.aside {s t : State} (h : Aside s t) : Acts s t := .single (.aside h)

theorem Acts.onMenu {s : State} {c : Chan} {f : Menu → Menu}
    (h : menuTableLaw s.tables.sheets → s.menuLaws (s.menu c) → s.menuLaws (f (s.menu c))) : Acts s (s.onMenu c f) :=
  .single (.menued c _ h)

theorem Acts.trans {s t u : State} (h : Acts s t) (k : Acts t u) : Acts s u := Relation.ReflTransGen.trans h k

theorem Acts.ite {s t u : State} {p : Prop} [Decidable p] (h : p → Acts s t) (k : ¬p → Acts s u) : Acts s (if p then t else u) := by
  split
  next holds => exact h holds
  next fails => exact k fails

/-- The rest of a step is done only where the device lives. -/
theorem Acts.andThen {s t : State} {f : State → State} (h : Acts s t) (k : t.regs.device ≠ .halted → Acts t (f t)) :
    Acts s (t.andThen f) := by
  by_cases halted : t.regs.device = .halted
  · rwa [State.andThen_halted f halted]
  · rw [State.andThen_live f halted]
    exact h.trans (k halted)

/-! ### Moves -/

/-- An act, or a change of a channel's state, of the claims or of the owed steps. -/
inductive Move : State → State → Prop
  | act {s t : State} (h : Act s t) : Move s t
  | moved {s : State} (c : Chan) (y : Channel) (k : ClaimTable) (w : FrameWork) (h : s.Keeps c y) :
      Move s { s.setChan c y with claims := k, work := w }

/-- A chain of moves. -/
abbrev Moves : State → State → Prop := Relation.ReflTransGen Move

theorem Acts.moves {s t : State} (h : Acts s t) : Moves s t := Relation.ReflTransGen.lift id (fun _ _ => Move.act) s t h

/-- `t` has the frame and the tables in use of `s`, and the device state unless it has entered HALTED. -/
structure SameFrame (s t : State) : Prop where
  beam : t.beam = s.beam
  tables : t.loader.tables = s.loader.tables
  device : t.regs.device = s.regs.device ∨ t.regs.device = .halted

theorem Moves.sameFrame {s t : State} (h : Moves s t) : SameFrame s t := by
  induction h with
  | refl => exact ⟨rfl, rfl, .inl rfl⟩
  | tail _ move ih =>
    cases move with
    | act h =>
      have kept := h.settled
      exact ⟨kept.beam.trans ih.beam, kept.tables.trans ih.tables, kept.device.elim (fun e => e ▸ ih.device) .inr⟩
    | moved c y k w h => exact ⟨ih.beam, ih.tables, ih.device⟩

theorem SameFrame.live {s t : State} (h : SameFrame s t) (live : t.regs.device ≠ .halted) : t.regs.device = s.regs.device :=
  h.device.resolve_right live

theorem SameFrame.chanConfig {s t : State} (h : SameFrame s t) (c : Chan) : t.chanConfig c = s.chanConfig c := by
  rw [State.chanConfig, State.config, h.tables]
  rfl

/-- A channel update of any kind. -/
theorem Moves.onChan {s : State} {c : Chan} {f : Channel → Channel} (h : s.Keeps c (f (s.chan c))) : Moves s (s.onChan c f) :=
  .single (.moved c _ s.claims s.work h)

/-- The claims and the owed steps. -/
theorem Moves.beside (s : State) (k : ClaimTable) (w : FrameWork) : Moves s { s with claims := k, work := w } := by
  have move : Move s { s.setChan .a (s.chan .a) with claims := k, work := w } := .moved .a _ k w {}
  exact .single move

theorem Moves.trans {s t u : State} (h : Moves s t) (k : Moves t u) : Moves s u := Relation.ReflTransGen.trans h k

theorem Moves.ite {s t u : State} {p : Prop} [Decidable p] (h : p → Moves s t) (k : ¬p → Moves s u) : Moves s (if p then t else u) := by
  split
  next holds => exact h holds
  next fails => exact k fails

theorem Moves.andThen {s t : State} {f : State → State} (h : Moves s t) (k : t.regs.device ≠ .halted → Moves t (f t)) :
    Moves s (t.andThen f) := by
  by_cases halted : t.regs.device = .halted
  · rwa [State.andThen_halted f halted]
  · rw [State.andThen_live f halted]
    exact h.trans (k halted)

/-- The work of both channels at one moment, in either order. -/
theorem Moves.eachChan {s : State} {f : Chan → State → State} (h : ∀ c t, t.regs.device ≠ .halted → Moves t (f c t))
    (live : s.regs.device ≠ .halted) : Moves s (s.eachChan f) := by
  have advanced : Moves s { s with choices := s.choices + 1 } := (Acts.aside {}).moves
  have still : ({ s with choices := s.choices + 1 } : State).regs.device ≠ .halted := live
  rw [State.eachChan]
  split
  · exact Moves.andThen (advanced.trans (h .b _ still)) (h .a _)
  · exact Moves.andThen (advanced.trans (h .a _ still)) (h .b _)

/-! ### Turns -/

/-- `t` is `s` after a stop or a reset: nothing the laws speak of is left but host memory. -/
structure Reset (s t : State) : Prop where
  closed : t.beam = ⟨false, 0, 0, [], false, false⟩
  chan : ∀ c, t.chan c = (s.chan c).stopped
  menus : t.menus = ⟨Menu.reset, Menu.reset⟩
  claims : t.claims = ⟨[], ⟨none, none⟩, none⟩
  loader : t.loader = Loader.reset
  log : t.log = ⟨0, 0, []⟩ ∨ t.log = ⟨s.log.nextSlot, 0, []⟩
  work : t.work = FrameWork.none
  mem : t.mem = s.mem
  device : t.regs.device = .stopped
  areaBase : t.regs.areaBase = s.regs.areaBase ∨ t.regs.areaBase = 0

/-- A primitive update of a step. -/
inductive Turn : State → State → Prop
  | move {s t : State} (h : Move s t) : Turn s t
  | echoMet {s : State} (c : Chan) (t : Nat) (due : (s.chan c).echo = .due t) :
      Turn s { s.onChan c fun x => { x with echo := .none } with beam := { s.beam with clock := max s.beam.clock t } }
  | saturated {s : State} : Turn s { s with beam := { s.beam with clock := Config.clockMax } }
  | ended {s : State} : Turn s s.endVector
  | began {s : State} (v : VectorNote) (isOpen : s.beam.isOpen = true) : Turn s (s.beginVector v)
  | closed {s : State} : Turn s s.closeTrail
  | opened {s : State} (closed : s.beam.isOpen = false) (live : s.regs.device = .running) : Turn s s.openFrame
  | started {s : State} (loading : s.regs.device = .loading) :
      Turn s (s.onRegs fun g => { g with device := .running }).openFrame
  | swapped {s : State} (n : Nat) :
      Turn s (((s.installDisarm (s.loader.installAll n) .a).installDisarm (s.loader.installAll n) .b).swapTables
        (s.loader.installAll n))
  | reset {s t : State} (h : Reset s t) : Turn s t
  | registered {s : State} (g : Registers) (law : s.regs.law → g.law)
      (device : g.device = s.regs.device ∨ (s.regs.device = .stopped ∧ g.device = .loading)) : Turn s (s.onRegs fun _ => g)
  | ticked {s : State} : Turn s s.tick

/-- A chain of turns. -/
abbrev Turns : State → State → Prop := Relation.ReflTransGen Turn

theorem Moves.turns {s t : State} (h : Moves s t) : Turns s t := Relation.ReflTransGen.lift id (fun _ _ => Turn.move) s t h

theorem Acts.turns {s t : State} (h : Acts s t) : Turns s t := h.moves.turns

theorem Turns.trans {s t u : State} (h : Turns s t) (k : Turns t u) : Turns s u := Relation.ReflTransGen.trans h k

theorem Turns.ite {s t u : State} {p : Prop} [Decidable p] (h : p → Turns s t) (k : ¬p → Turns s u) : Turns s (if p then t else u) := by
  split
  next holds => exact h holds
  next fails => exact k fails

theorem Turns.andThen {s t : State} {f : State → State} (h : Turns s t) (k : t.regs.device ≠ .halted → Turns t (f t)) :
    Turns s (t.andThen f) := by
  by_cases halted : t.regs.device = .halted
  · rwa [State.andThen_halted f halted]
  · rw [State.andThen_live f halted]
    exact h.trans (k halted)

/-- A law that every turn keeps is kept by a chain of turns. -/
theorem Turns.keeps {P : State → Prop} (kept : ∀ s t, Turn s t → P s → P t) {s t : State} (h : Turns s t) (law : P s) : P t := by
  induction h with
  | refl => exact law
  | tail _ turn ih => exact kept _ _ turn ih

end Sys2Proof.Machine

/-! The operations that are chains of acts: the log and the status section, the highlights, the menus, the resolution of strikes, the
collections and the qualification table, and the table reads. -/

namespace Sys2Proof.Machine

/-! ### The law of the Log Writer -/

theorem State.access_log (s : State) (a : BusAccess) : (s.access a).2.log = s.log := by rw [State.access_eq]

theorem State.tryStatus_log (s : State) : s.tryStatus.2.log = s.log := by
  unfold State.tryStatus
  have kept := s.access_log .statusWrite
  generalize s.access .statusWrite = p at kept ⊢
  obtain ⟨_ | w, t⟩ := p
  · exact kept
  · exact kept

theorem State.busErrorMet_log (s : State) : s.busErrorMet.log = s.log := by
  unfold State.busErrorMet
  split
  · exact State.tryStatus_log _
  · exact State.tryStatus_log _
  · rfl
  · rfl

theorem State.writeStatus_log (s : State) : s.writeStatus.2.log = s.log := by
  unfold State.writeStatus
  have kept := s.tryStatus_log
  generalize s.tryStatus = p at kept ⊢
  obtain ⟨_ | _, t⟩ := p
  · exact t.busErrorMet_log.trans kept
  · exact kept

/-- A list of held records within the limits of every source (R165). -/
def heldLaw (held : List Record) : Prop :=
  ∀ src : Source, (held.filter fun r => r.source == src).length ≤ 4 ∧
    ((held.filter fun r => r.source == src).filter Record.isTrack).length ≤ 1

theorem heldLaw.sublist {l m : List Record} (h : heldLaw m) (sub : l.Sublist m) : heldLaw l := fun src =>
  ⟨(sub.filter _).length_le.trans (h src).1, ((sub.filter _).filter _).length_le.trans (h src).2⟩

theorem State.writeRecord_law {s : State} (r : Record) (h : s.log.law) : (s.writeRecord r).log.law := by
  obtain ⟨slot, number, held⟩ := h
  unfold State.writeRecord
  have kept := s.access_log .slotWrite
  generalize s.access .slotWrite = p at kept ⊢
  obtain ⟨_ | w, t⟩ := p
  · exact ⟨Nat.mod_lt _ (by decide), Nat.mod_lt _ (by decide), kept ▸ held⟩
  · have same : (t.writeArea (slotOffset s.log.nextSlot + 4)
        (((r.wordsAfter s.log.recordNumber).flatMap bytes32).take (4 * w))).busErrorMet.log = s.log :=
      (State.busErrorMet_log _).trans kept
    dsimp only
    rw [same]
    exact ⟨slot, number, held⟩

/-- The records kept by a TRACK record hold no TRACK record of its source (R165). -/
theorem filter_supersedes_track {r : Record} (track : r.isTrack = true) (held : List Record) :
    ((held.filter fun x => !supersedes r x).filter fun x => x.source == r.source).filter Record.isTrack = [] := by
  rw [List.filter_eq_nil_iff]
  intro x member isTrack
  obtain ⟨inKept, own⟩ := List.mem_filter.mp member
  obtain ⟨_, kept⟩ := List.mem_filter.mp inKept
  simp [supersedes, track, isTrack, own] at kept

theorem State.joinHold_law {s : State} (r : Record) (h : s.log.law) : (s.joinHold r).log.law := by
  obtain ⟨slot, number, held⟩ := h
  have kept : heldLaw (s.log.held.filter fun x => !supersedes r x) := heldLaw.sublist held List.filter_sublist
  unfold State.joinHold
  dsimp only
  split
  next room =>
    refine ⟨slot, number, fun src => ?_⟩
    simp only [LogWriter.hold, List.filter_append, List.length_append]
    obtain ⟨few, oneTrack⟩ := kept src
    by_cases own : r.source = src
    · subst own
      have joined : ([r].filter fun x => x.source == r.source) = [r] := by simp
      rw [joined]
      refine ⟨room, ?_⟩
      by_cases track : r.isTrack = true
      · rw [filter_supersedes_track track]
        simp [track]
      · simpa [track] using oneTrack
    · have none : ([r].filter fun x => x.source == src) = [] := by simp [own]
      rw [none]
      exact ⟨few, oneTrack⟩
  next => exact ⟨slot, number, held⟩

theorem State.drainSteps_law (n : Nat) {s : State} (h : s.log.law) : (State.drainSteps n s).log.law := by
  induction n generalizing s with
  | zero => exact h
  | succ n ih =>
    unfold State.drainSteps
    split
    next => exact h
    next r rest held =>
      have kept := s.access_log .slotRead
      generalize s.access .slotRead = p at kept ⊢
      obtain ⟨_ | w, t⟩ := p
      · have law : t.log.law := kept ▸ h
        dsimp only
        split
        · have shorter : ({ t with log := { t.log with held := rest } } : State).log.law := by
            obtain ⟨slot, number, limits⟩ := law
            have all : t.log.held = r :: rest := by rw [show t.log = s.log from kept, held]
            exact ⟨slot, number, heldLaw.sublist limits (all ▸ List.sublist_cons_self r rest)⟩
          have written := State.writeRecord_law r shorter
          unfold State.andThen
          split
          · exact written
          · exact ih written
        · exact law
      · have same : t.busErrorMet.log = s.log := t.busErrorMet_log.trans kept
        dsimp only
        rw [same]
        exact h

theorem State.placeDrained_law {s : State} (r : Record) (h : s.log.law) : (s.placeDrained r).log.law := by
  unfold State.placeDrained
  split
  · have kept := s.access_log .slotRead
    generalize s.access .slotRead = p at kept ⊢
    obtain ⟨_ | w, t⟩ := p
    · have law : t.log.law := kept ▸ h
      dsimp only
      split
      · exact State.writeRecord_law r law
      · exact State.joinHold_law r law
    · have same : t.busErrorMet.log = s.log := t.busErrorMet_log.trans kept
      dsimp only
      rw [same]
      exact h
  · exact State.joinHold_law r h

theorem State.place_law {s : State} (r : Record) (h : s.log.law) : (s.place r).log.law := by
  have drained : s.drain.log.law := State.drainSteps_law _ h
  unfold State.place State.andThen
  split
  · exact drained
  · exact State.placeDrained_law r drained

/-! ### The log and the status section -/

theorem LogFrame.toAside {s t : State} (h : LogFrame s t) (log : s.log.law → t.log.law) : Aside s t :=
  ⟨h.beam, h.chan, h.menus, by rw [h.claims], by rw [h.claims], by rw [h.work], by rw [h.work], by rw [h.loader],
    by rw [h.loader], h.areaBase, h.device, log, h.wf⟩

theorem Acts.access (s : State) (a : BusAccess) : Acts s (s.access a).2 :=
  .aside ((s.access_frame a).toAside (by rw [State.access_log]; exact id))

theorem Acts.busErrorMet (s : State) : Acts s s.busErrorMet :=
  .aside (s.busErrorMet_frame.toAside (by rw [State.busErrorMet_log]; exact id))

theorem Acts.halt (s : State) (k : FaultKind) : Acts s (s.halt k) :=
  .aside ((s.halt_frame k).toAside (by rw [State.halt, State.tryStatus_log]; exact id))

theorem Acts.writeStatus (s : State) : Acts s s.writeStatus.2 :=
  .aside (s.writeStatus_frame.toAside (by rw [State.writeStatus_log]; exact id))

theorem Acts.drain (s : State) : Acts s s.drain := .aside (s.drain_frame.toAside (State.drainSteps_law _))

theorem Aside.record (s : State) (c : Chan) (n : Notes) (b : Body) : Aside s (s.record c n b) :=
  (s.record_frame c n b).toAside (State.place_law _)

theorem Acts.place (s : State) (r : Record) : Acts s (s.place r) := .aside ((s.place_frame r).toAside (State.place_law _))

theorem Acts.record (s : State) (c : Chan) (n : Notes) (b : Body) : Acts s (s.record c n b) := .aside (Aside.record s c n b)

/-! ### The highlights, the generator and the Idle Monitor -/

theorem Acts.choose (s : State) (claims : List Claim) (c : Chan) : Acts s (s.choose claims c) := .aside {}

theorem Acts.chooseNow (s : State) (c : Chan) : Acts s (s.chooseNow c) := .aside {}

theorem Acts.chooseBoth (s : State) : Acts s s.chooseBoth := .aside {}

theorem Acts.syncBlink (s : State) : Acts s s.syncBlink := by
  unfold State.syncBlink
  split
  · exact .aside {}
  · exact .aside {}
  · exact .refl
  · exact .refl

theorem Acts.countBlink (s : State) : Acts s s.countBlink := by
  unfold State.countBlink
  split
  · exact .refl
  · exact .aside {}

theorem Acts.present (s : State) (k : IdleKind) : Acts s (s.present k).2 := by
  unfold State.present
  split
  · dsimp only
    split
    · exact .aside {}
    · exact .refl
  · exact .aside {}

/-! ### The menus -/

theorem Acts.clearArmed (s : State) (c : Chan) : Acts s (s.clearArmed c) := by
  unfold State.clearArmed
  split
  · exact .refl
  · exact (Acts.onMenu fun _ ⟨law, _, below⟩ => ⟨law, trivial, below⟩).trans (Acts.syncBlink _)

theorem Acts.reportDisarm (s : State) (c : Chan) (cause : DisarmCause) : Acts s (s.reportDisarm c cause) := by
  unfold State.reportDisarm
  split
  · exact .refl
  · exact Acts.record s c _ _

theorem Acts.disarm (s : State) (c : Chan) (cause : DisarmCause) : Acts s (s.disarm c cause) :=
  (Acts.reportDisarm s c cause).andThen fun _ => Acts.clearArmed _ c

@[simp] theorem State.syncBlink_menus (s : State) : s.syncBlink.menus = s.menus := by
  unfold State.syncBlink
  split <;> rfl

@[simp] theorem State.syncBlink_loader (s : State) : s.syncBlink.loader = s.loader := by
  unfold State.syncBlink
  split <;> rfl

theorem State.menu_clearArmed (s : State) (c : Chan) :
    (s.clearArmed c).menu c = if (s.menu c).armed = none then s.menu c else { s.menu c with armed := none, countdown := 0 } := by
  unfold State.clearArmed
  split
  next unarmed => rw [if_pos unarmed]
  next k armed =>
    rw [if_neg (by simp [armed]), State.menu, State.syncBlink_menus]
    exact s.menu_onMenu c _

theorem State.armed_clearArmed (s : State) (c : Chan) : ((s.clearArmed c).menu c).armed = none := by
  rw [State.menu_clearArmed]
  split
  next unarmed => exact unarmed
  next => rfl

theorem State.tables_clearArmed (s : State) (c : Chan) : (s.clearArmed c).tables = s.tables := by
  unfold State.clearArmed
  split
  · rfl
  · rw [State.tables, State.syncBlink_loader]
    rfl

/-- A disarming that meets no halt leaves nothing armed. -/
theorem State.armed_disarm {s : State} {c : Chan} {cause : DisarmCause} (live : (s.disarm c cause).regs.device ≠ .halted) :
    ((s.disarm c cause).menu c).armed = none := by
  unfold State.disarm at live ⊢
  by_cases halted : (s.reportDisarm c cause).regs.device = .halted
  · rw [State.andThen_halted _ halted] at live
    exact absurd halted live
  · rw [State.andThen_live _ halted]
    exact State.armed_clearArmed _ c

/-- A live button of a top sheet is one of an installed sheet. -/
theorem State.live_installed {s : State} {c : Chan} {tag i : Nat} {b : Button} (found : (s.topSheet c).live tag = some i)
    (at_ : (s.topSheet c).buttons[i]? = some b) : s.topSheet c ∈ s.tables.sheets ∧ b.inert = false := by
  obtain ⟨bound, isLive, _⟩ := List.findIdx?_eq_some_iff_getElem.mp found
  have value : (s.topSheet c).buttons[i] = b := by
    obtain ⟨_, e⟩ := List.getElem?_eq_some_iff.mp at_
    exact e
  rw [value] at isLive
  refine ⟨?_, by simpa using (Bool.and_eq_true_iff.mp isLive).2⟩
  have some_ : i < (s.tables.sheet (s.menu c).top).buttons.length := bound
  unfold State.topSheet
  unfold Tables.sheet at some_ ⊢
  by_cases inRange : (s.menu c).top < s.tables.sheets.length
  · simp [List.getD, inRange]
  · simp [List.getD, inRange, emptySheet] at some_

/-- A button of an installed sheet that performs keeps the law of the menus, with no other button armed (R107, R111). -/
theorem performKind_keeps {s : State} {m : Menu} {sheet i : Nat} {b : Button} {sh : Sheet} (unarmed : m.armed = none)
    (installed : sh ∈ s.tables.sheets) (inSheet : b ∈ sh.buttons) (isLive : b.inert = false)
    (table : menuTableLaw s.tables.sheets) (law : s.menuLaws m) : s.menuLaws (performKind m sheet i b).2 := by
  obtain ⟨⟨home, height⟩, _, below⟩ := law
  have armedLaw : ∀ n : Menu, n.armed = none → n.armedLaw := fun n h => by simp [Menu.armedLaw, h]
  unfold performKind
  split
  next opens =>
    split
    next room =>
      refine ⟨⟨?_, ?_⟩, armedLaw _ unarmed, fun n member => ?_⟩
      · simp [home]
      · simpa using room
      · rcases List.mem_append.mp member with inStack | pushed
        · exact below n inStack
        · rw [List.mem_singleton.mp pushed]
          exact table.2 sh installed b inSheet opens isLive
    next => exact ⟨⟨home, height⟩, armedLaw _ unarmed, below⟩
  next =>
    split
    next two =>
      refine ⟨⟨?_, ?_⟩, armedLaw _ unarmed, fun n member => below n (List.mem_of_mem_dropLast member)⟩
      · dsimp only
        rw [List.dropLast_eq_take, List.head?_take, if_neg (by omega), home]
      · exact (List.dropLast_sublist _).length_le.trans height
    next => exact ⟨⟨home, height⟩, armedLaw _ unarmed, below⟩
  all_goals exact ⟨⟨home, height⟩, armedLaw _ unarmed, below⟩

theorem Acts.perform {s : State} {c : Chan} {sheet i : Nat} {b : Button} {trig : Trigger} {echo : Bool} {sh : Sheet}
    (unarmed : (s.menu c).armed = none) (installed : sh ∈ s.tables.sheets) (inSheet : b ∈ sh.buttons)
    (isLive : b.inert = false) : Acts s (s.perform c sheet i b trig echo) :=
  (Acts.onMenu fun table law => performKind_keeps unarmed installed inSheet isLive table law).trans (Acts.record _ c _ _)

theorem Acts.arm (s : State) (c : Chan) (i : Nat) (trig : Trigger) (echo : Bool) : Acts s (s.arm c (s.menu c).top i trig echo) :=
  ((Acts.onMenu fun _ ⟨law, _, below⟩ => ⟨law, rfl, below⟩).trans (Acts.syncBlink _)).trans (Acts.record _ c _ _)

theorem Acts.takeButton {s : State} {c : Chan} {i : Nat} {b : Button} {trig : Trigger} {echo : Bool} {sh : Sheet}
    (alone : (s.menu c).armed = none ∨ (s.menu c).armed = some ((s.menu c).top, i)) (installed : sh ∈ s.tables.sheets)
    (inSheet : b ∈ sh.buttons) (isLive : b.inert = false) : Acts s (s.takeButton c (s.menu c).top i b trig echo) := by
  unfold State.takeButton
  split
  · refine (Acts.clearArmed s c).trans (Acts.perform (State.armed_clearArmed s c) ?_ inSheet isLive)
    rwa [State.tables_clearArmed]
  next other =>
    split
    · exact Acts.arm s c i trig echo
    · exact Acts.perform (alone.resolve_right other) installed inSheet isLive

/-- A disarming reaches nothing of the stack. -/
theorem State.disarm_menu (s : State) (c : Chan) (cause : DisarmCause) :
    (s.disarm c cause).menu c = s.menu c ∨ (s.disarm c cause).menu c = { s.menu c with armed := none, countdown := 0 } := by
  have reported : (s.reportDisarm c cause).menu c = s.menu c := by
    unfold State.reportDisarm
    split
    · rfl
    · exact (s.record_frame c _ _).menu c
  unfold State.disarm
  by_cases halted : (s.reportDisarm c cause).regs.device = .halted
  · rw [State.andThen_halted _ halted]
    exact .inl reported
  · rw [State.andThen_live _ halted, State.menu_clearArmed, reported]
    split
    · exact .inl rfl
    · exact .inr rfl

theorem State.disarm_tables (s : State) (c : Chan) (cause : DisarmCause) : (s.disarm c cause).tables = s.tables :=
  (Acts.disarm s c cause).settled.tables

theorem Acts.buttonPick (s : State) (c : Chan) (tag : Nat) (trig : Trigger) (echo : Bool) :
    Acts s (s.buttonPick c tag trig echo) := by
  unfold State.buttonPick
  dsimp only
  split
  next => exact .refl
  next i found =>
    obtain ⟨bound, -⟩ := List.findIdx?_eq_some_iff_getElem.mp found
    have at_ : (s.topSheet c).buttons[i]? = some (s.topSheet c).buttons[i] := List.getElem?_eq_getElem bound
    obtain ⟨installed, isLive⟩ := State.live_installed found at_
    have button : (s.topSheet c).buttons.getD i ⟨0, none, 0, 0, false, false, true⟩ = (s.topSheet c).buttons[i] := by
      simp [List.getD, at_]
    rw [button]
    split
    next own => exact Acts.andThen .refl fun _ => Acts.takeButton (.inr own) installed (List.getElem_mem bound) isLive
    next other =>
      refine (Acts.disarm s c .pick).andThen fun live => ?_
      have top : ((s.disarm c .pick).menu c).top = (s.menu c).top := by
        rcases s.disarm_menu c .pick with e | e
        · rw [e]
        · rw [e]
          rfl
      rw [← top]
      refine Acts.takeButton (.inl (State.armed_disarm live)) ?_ (List.getElem_mem bound) isLive
      rw [State.disarm_tables]
      exact installed

theorem Acts.lowerCountdown (s : State) (c : Chan) (before : Option (Nat × Nat)) : Acts s (s.lowerCountdown c before) := by
  have lowered : Acts s (s.onMenu c fun m => { m with countdown := (s.menu c).countdown - 1 }) :=
    Acts.onMenu fun _ ⟨law, armed, below⟩ => ⟨law, armed, below⟩
  unfold State.lowerCountdown
  split
  · dsimp only
    split
    · exact lowered.trans (Acts.aside {})
    · exact lowered
  · exact .refl

/-! ### Resolution and the taking of strikes -/

theorem dotEntry_reach {trail : List Entry} {dot ts : Nat} {e : Entry} (h : dotEntry trail dot ts = some e) :
    e.begun ≤ ts ∧ ts ≤ e.begun + 511 := by
  have found := List.find?_some h
  rw [Bool.and_eq_true_iff, decide_eq_true_eq] at found
  exact found.2

/-- A strike taken into account and then measured, or resolved, or left pending (R23, R24). -/
theorem Acts.taken {s : State} {c : Chan} (ts : Nat) (echo : Bool) (takes : s.takes c = true) :
    Acts s (let u := s.onChan c fun x => { x with strikes := x.strikes + 1 }
      if (u.chan c).mode = .calibrating then u.measure c ts echo else u.takeStrike c ts echo) := by
  have isOpen : s.beam.isOpen = true := by simp [State.takes] at takes; exact takes.1.1.2
  have room : (s.chan c).strikes < 4 := by exact of_decide_eq_true (Bool.and_eq_true_iff.mp takes).2
  have counted : Acts s (s.onChan c fun x => { x with strikes := x.strikes + 1 }) :=
    Acts.onChan { strikes := fun ⟨_, resolved⟩ => ⟨room, Nat.le_succ_of_le resolved⟩ }
  have chan := s.chan_onChan c fun x => { x with strikes := x.strikes + 1 }
  have twice : ∀ f : Channel → Channel, (s.onChan c fun x => { x with strikes := x.strikes + 1 }).onChan c f =
      s.onChan c fun x => f { x with strikes := x.strikes + 1 } := by
    intro f
    cases c <;> rfl
  have resolved : ∀ r, Acts s ((s.onChan c fun x => { x with strikes := x.strikes + 1 }).addResult c r) := by
    intro r
    rw [State.addResult, twice]
    refine Acts.onChan { strikes := fun ⟨_, few⟩ => ⟨room, ?_⟩ }
    simp only [List.length_append, List.length_singleton]
    omega
  dsimp only
  split
  · unfold State.measure
    split
    · exact counted
    next e found =>
      split
      · exact counted
      · refine counted.trans (Acts.onChan { delay := fun _ ⟨delay, measures⟩ => ⟨delay, fun m member => ?_⟩ })
        obtain ⟨dot, _, seen⟩ := Option.bind_eq_some_iff.mp found
        rcases List.mem_append.mp member with old | new
        · exact measures m old
        · rw [List.mem_singleton.mp new]
          have reach := dotEntry_reach seen
          dsimp only
          omega
  · unfold State.takeStrike
    dsimp only
    split
    · exact resolved _
    · split
      · rw [twice]
        refine Acts.onChan { strikes := fun ⟨_, few⟩ => ⟨room, ?_⟩, pending := fun closed => by simp [isOpen] at closed }
        simp only [List.length_append, List.length_singleton]
        omega
      · exact resolved _

theorem Acts.meetStrike (s : State) (c : Chan) (ts : Nat) (echo : Bool) : Acts s (s.meetStrike c ts echo) := by
  unfold State.meetStrike
  split
  · have presented := Acts.present s .strike
    generalize s.present .strike = p at presented ⊢
    obtain ⟨_ | _, t⟩ := p
    · exact presented
    · dsimp only
      split
      next takes => exact presented.trans (Acts.taken ts echo takes)
      next => exact presented
  · exact .refl

theorem Acts.strikeEdge (s : State) (c : Chan) : Acts s (s.strikeEdge c) := by
  have moved : Acts s (s.onChan c fun x => { x with lineHigh := (s.chanConfig c).edge.activeHigh }) := Acts.onChan {}
  unfold State.strikeEdge
  dsimp only
  split
  · exact (moved.trans (Acts.onChan {})).trans (Acts.meetStrike _ c _ _)
  · exact moved

/-! ### Collections -/

theorem Acts.endCollection (s : State) (c : Chan) (o : SeqOutcome) : Acts s (s.endCollection c o) := by
  unfold State.endCollection
  split
  · exact .refl
  · exact (Acts.record s c _ _).andThen fun _ => Acts.onChan { collection := fun _ => trivial, remaining := fun _ => by simp }

/-- A pick keeps the law of a collection with something remaining (R102). -/
theorem collectTag_law {k : Option Collection} (tag : Nat) (rest : k.map Collection.remaining ≠ some 0) (law : collectionLaw k) :
    collectionLaw (collectTag k tag).2.2 := by
  unfold collectTag
  split
  next => trivial
  next x =>
    obtain ⟨sum, most, nodup⟩ := law
    have remains : x.remaining ≠ 0 := fun e => rest (by simp [e])
    split
    · exact ⟨sum, most, nodup⟩
    next absent =>
      refine ⟨?_, most, ?_⟩
      · simp only [List.length_append, List.length_singleton]
        omega
      · have fresh : tag ∉ x.tags := by simpa [List.idxOf?_eq_none_iff] using absent
        rw [List.nodup_append]
        exact ⟨nodup, List.nodup_singleton tag, fun a inTags b inNew e => fresh (by
          rw [← List.mem_singleton.mp inNew, ← e]; exact inTags)⟩

/-- A collection that ends after an aside might as well have ended before it. -/
theorem Aside.endCollection {s t : State} {c : Chan} {k : Option Collection}
    (h : Aside (s.onChan c fun x => { x with collection := k }) t) :
    Aside (s.onChan c fun x => { x with collection := none }) (t.onChan c fun x => { x with collection := none }) where
  beam := h.beam
  chan := fun d => by
    have kept := h.chan d
    by_cases e : d = c
    · subst e
      rw [State.chan_onChan] at kept
      rw [State.chan_onChan, State.chan_onChan, kept]
    · rw [State.chan_onChan_ne s _ e] at kept
      rw [State.chan_onChan_ne s _ e, State.chan_onChan_ne t _ e, kept]
  menus := h.menus
  entries := h.entries
  asks := h.asks
  owed := h.owed
  active := h.active
  tables := h.tables
  loads := h.loads
  areaBase := h.areaBase
  device := h.device
  log := h.log
  wf := h.wf

theorem Acts.recordPick {s : State} (c : Chan) (k : Pick) (n : Notes) (tracking : Bool) (live : s.regs.device ≠ .halted) :
    Acts s (s.recordPick c k n tracking) := by
  unfold State.recordPick
  dsimp only
  generalize joined : (collectTag (s.chan c).collection k.tag).2.2 = after
  have law : (s.chan c).collection.map Collection.remaining ≠ some 0 → collectionLaw (s.chan c).collection →
      collectionLaw after := fun rest law => joined ▸ collectTag_law k.tag rest law
  generalize (.pick k (loftPoint (s.onChan c fun x => { x with collection := after }).tables k.group k.point)
    (collectTag (s.chan c).collection k.tag).1 tracking : Body) = body
  generalize ({ n with echo := k.echo, again := (collectTag (s.chan c).collection k.tag).2.1 } : Notes) = notes
  have handed := Aside.record (s.onChan c fun x => { x with collection := after }) c notes body
  generalize (s.onChan c fun x => { x with collection := after }).record c notes body = t at handed ⊢
  by_cases halted : t.regs.device = .halted
  · rw [State.andThen_halted _ halted]
    exact .single (.picked c after live law handed (.inl halted))
  · rw [State.andThen_live _ halted]
    split
    next spent =>
      have mid : (t.chan c).collection = after := by rw [handed.chan c, State.chan_onChan]
      obtain ⟨x, isSome, -⟩ := Option.map_eq_some_iff.mp spent
      unfold State.endCollection
      rw [mid, isSome]
      dsimp only
      have ended := Aside.record t c {} (.sequenceEnd .complete x.requested x.tags)
      generalize t.record c {} (.sequenceEnd .complete x.requested x.tags) = u at ended ⊢
      by_cases halted : u.regs.device = .halted
      · rw [State.andThen_halted _ halted]
        exact .single (.picked c after live law (handed.trans ended) (.inl halted))
      · rw [State.andThen_live _ halted]
        exact .single (.picked c none live (fun _ _ => trivial) (handed.trans ended).endCollection (.inr (by simp)))
    next rest => exact .single (.picked c after live law handed (.inr rest))

end Sys2Proof.Machine

/-! The qualification table under its update (R83 to R87), the validated copies of the tables (R34, R106, R107), and the acts of the
Table Loader. -/

namespace Sys2Proof.Machine

/-! ### Sighting sets -/

/-- The pair that a sighting is keyed by. -/
def Seen.pair (x : Seen) : Nat × Nat := (x.group, x.tag)

/-- The pair of an entry of a qualification table. -/
def Qual.pair (q : Qual) : Nat × Nat := (q.group, q.tag)

theorem findSeen_isSome_iff (set : List Seen) (x : Seen) :
    (findSeen set x.group x.tag).isSome = true ↔ x.pair ∈ set.map Seen.pair := by
  simp [findSeen, Seen.pair, List.find?_isSome]

/-- A sighting set holds one sighting of a pair (R83). -/
theorem sightingSet_nodup (rs : List StrikeResult) : ((sightingSet rs).map Seen.pair).Nodup := by
  suffices joined : ∀ (seen acc : List Seen), (acc.map Seen.pair).Nodup →
      ((seen.foldl (fun acc x => if (findSeen acc x.group x.tag).isSome then acc else acc ++ [x]) acc).map Seen.pair).Nodup from
    joined _ [] List.nodup_nil
  intro seen
  induction seen with
  | nil => exact fun acc nodup => nodup
  | cons x seen ih =>
    intro acc nodup
    refine ih _ ?_
    dsimp only
    split
    next => exact nodup
    next absent =>
      rw [findSeen_isSome_iff] at absent
      rw [List.map_append, List.nodup_append]
      refine ⟨nodup, List.nodup_singleton _, fun a inAcc b new e => absent ?_⟩
      rw [List.map_singleton, List.mem_singleton] at new
      rw [← new, ← e]
      exact inAcc

/-! ### The update of the table -/

theorem length_makeRoom_lt (k : Nat) {table : List Qual} (h : table.length ≤ 4) : (makeRoom k table).length < 4 := by
  have evicted : ∀ (qs : List Qual) (best : Nat) (worst : Qual) (next : Nat), best < next →
      evictFrom k qs best worst next < next + qs.length := by
    intro qs
    induction qs with
    | nil => exact fun best worst next h => h
    | cons q qs ih =>
      intro best worst next h
      rw [evictFrom, List.length_cons]
      split
      · have := ih next q (next + 1) (Nat.lt_succ_self next)
        omega
      · have := ih best worst (next + 1) (Nat.lt_succ_of_lt h)
        omega
  unfold makeRoom Config.tableMax
  split
  next room => exact room
  next =>
    split
    next => exact Nat.zero_lt_succ 3
    next q qs _ =>
      have position := evicted qs 0 q 1 Nat.one_pos
      rw [List.length_eraseIdx_of_lt (by rw [List.length_cons]; omega)]
      rw [List.length_cons] at h ⊢
      omega

theorem makeRoom_sublist (k : Nat) (table : List Qual) : (makeRoom k table).Sublist table := by
  unfold makeRoom
  split
  · exact List.Sublist.refl table
  · split
    · exact List.Sublist.refl []
    · exact List.eraseIdx_sublist _ _

/-- A pair the table does not hold joins it (R87). -/
theorem addSeen_law {table : List Qual} (k : Nat) (x : Seen) (law : tableLaw table) (fresh : x.pair ∉ table.map Qual.pair) :
    tableLaw (addSeen k table x) := by
  obtain ⟨few, nodup, seen⟩ := law
  have room := length_makeRoom_lt k few
  have sub := makeRoom_sublist k table
  refine ⟨?_, ?_, fun q member => ?_⟩
  · rw [addSeen, List.length_append, List.length_singleton]
    exact room
  · rw [addSeen, List.map_append, List.nodup_append]
    refine ⟨nodup.sublist (sub.map _), List.nodup_singleton _, fun a old b new e => fresh ?_⟩
    rw [List.map_singleton, List.mem_singleton] at new
    have value : a = x.pair := e.trans new
    exact value ▸ (sub.map _).subset old
  · rcases List.mem_append.mp member with old | new
    · exact seen q (sub.subset old)
    · rw [List.mem_singleton.mp new]
      simp [Qual.sightings]

theorem foldl_addSeen_law (k : Nat) (fresh : List Seen) {table : List Qual} (law : tableLaw table)
    (apart : ∀ x ∈ fresh, x.pair ∉ table.map Qual.pair) (nodup : (fresh.map Seen.pair).Nodup) :
    tableLaw (fresh.foldl (addSeen k) table) := by
  induction fresh generalizing table with
  | nil => exact law
  | cons x fresh ih =>
    obtain ⟨first, rest⟩ := List.nodup_cons.mp nodup
    refine ih (addSeen_law k x law (apart x List.mem_cons_self)) (fun y member held => ?_) rest
    rw [addSeen, List.map_append, List.mem_append, List.map_singleton, List.mem_singleton] at held
    rcases held with old | new
    · exact apart y (List.mem_cons_of_mem x member) (((makeRoom_sublist k table).map _).subset old)
    · exact first (List.mem_map.mpr ⟨y, member, new⟩)

/-- The update of a qualification table keeps its law (R85, R86). -/
theorem updateTable_law (m k : Nat) {set : List Seen} (nodup : (set.map Seen.pair).Nodup) {table : List Qual}
    (law : tableLaw table) : tableLaw (updateTable m k set table) := by
  obtain ⟨few, pairs, -⟩ := law
  have grown : (table.map (Qual.append m set)).map Qual.pair = table.map Qual.pair := by
    rw [List.map_map]
    rfl
  refine foldl_addSeen_law k _ ⟨?_, ?_, fun q member => ?_⟩ (fun x member held => ?_) (nodup.sublist (List.filter_sublist.map _))
  · exact List.filter_sublist.length_le.trans ((List.length_map _).trans_le few)
  · refine List.Nodup.sublist (List.filter_sublist.map _) ?_
    change ((table.map (Qual.append m set)).map Qual.pair).Nodup
    rw [grown]
    exact pairs
  · simpa using (List.mem_filter.mp member).2
  · obtain ⟨q, kept, e⟩ := List.mem_map.mp held
    obtain ⟨group, tag⟩ := Prod.mk.inj e
    have absent := (List.mem_filter.mp member).2
    rw [Bool.not_eq_true', List.any_eq_false] at absent
    exact absent q kept (by simp [group, tag])

theorem Acts.updateQual (s : State) (c : Chan) : Acts s (s.updateQual c) := by
  unfold State.updateQual
  exact Acts.onChan { table := updateTable_law _ _ (sightingSet_nodup _) }

theorem fireEntry_law (g t : Nat) {table : List Qual} (law : tableLaw table) : tableLaw (fireEntry table g t) := by
  have alike : ∀ q : Qual, (if q.group = g ∧ q.tag = t then { q with fired := true } else q).pair = q.pair ∧
      (if q.group = g ∧ q.tag = t then { q with fired := true } else q).sightings = q.sightings := by
    intro q
    split
    · exact ⟨rfl, rfl⟩
    · exact ⟨rfl, rfl⟩
  obtain ⟨few, pairs, seen⟩ := law
  refine ⟨(List.length_map _).trans_le few, ?_, fun q member => ?_⟩
  · rw [fireEntry, List.map_map]
    have same : ((fun q : Qual => (q.group, q.tag)) ∘ fun q => if q.group = g ∧ q.tag = t then { q with fired := true } else q) =
        Qual.pair := funext fun q => (alike q).1
    rw [same]
    exact pairs
  · obtain ⟨old, inTable, rfl⟩ := List.mem_map.mp member
    rw [(alike old).2]
    exact seen old inTable

theorem Acts.pickButton (s : State) (c : Chan) (k : Pick) : Acts s (s.pickButton c k) :=
  (Acts.buttonPick s c _ _ _).andThen fun _ => Acts.onChan { table := fireEntry_law _ _ }

theorem Acts.sightPick (s : State) (c : Chan) : Acts s (s.sightPick c) := by
  unfold State.sightPick
  split
  · split
    · exact .refl
    · exact Acts.pickButton s c _
  · exact .refl

/-! ### The validated copies -/

theorem judge_le {inRange : Bool} {v d n : Nat} (kept : inRange = true → v ≤ n) (default : d ≤ n) :
    (judge inRange v d).1 ≤ n := by
  unfold judge
  split
  next h => exact kept h
  next => exact default

/-- A delay override lies in its range (R34). -/
theorem channelBlock_delayOverride (img : List Byte) (o : Nat) : (channelBlock img o).1.delayOverride ≤ 511 :=
  judge_le (fun h => of_decide_eq_true h) (Nat.zero_le _)

theorem markInert_kept {sheets : Nat} {earlier : List Nat} {bs : List Button} {b : Button}
    (h : b ∈ markInert sheets earlier bs) (opens : b.kind = some .openSheet) (isLive : b.inert = false) : b.target < sheets := by
  induction bs generalizing earlier with
  | nil => cases h
  | cons x bs ih =>
    rcases List.mem_cons.mp h with rfl | later
    · dsimp only at opens isLive
      rw [opens] at isLive
      have both : x.target < sheets ∧ x.tag ∉ earlier := by simpa using isLive
      exact both.1
    · exact ih later

/-- A menu table as validated keeps its law (R106, R107). -/
theorem parseMenu_law (img : List Byte) : menuTableLaw (parseMenu img).1 := by
  have count : 1 ≤ (sheetCount (u8 img 0)).1 := by
    unfold sheetCount
    split
    · exact le_refl 1
    · split
      · decide
      next some_ _ => exact Nat.one_le_iff_ne_zero.mpr some_
  have length : (parseMenu img).1.length = (sheetCount (u8 img 0)).1 := by simp [parseMenu]
  refine ⟨List.ne_nil_of_length_pos (by rw [length]; exact count), fun sh member b inSheet opens isLive => ?_⟩
  rw [length]
  obtain ⟨p, inAll, rfl⟩ := List.mem_map.mp member
  obtain ⟨n, -, rfl⟩ := List.mem_map.mp inAll
  exact markInert_kept inSheet opens isLive

theorem Load.lawful_idle (t : TableId) : Load.idle.lawful t := ⟨fun _ => trivial, fun _ => trivial, trivial⟩

theorem Load.lawful_reading (r : Word) (got : List Byte) (t : TableId) : (Load.reading r got).lawful t :=
  ⟨fun _ => trivial, fun _ => trivial, trivial⟩

theorem Load.lawful_validate (t : TableId) (r : Word) (img : List Byte) (n : Nat) :
    (Load.waiting r (validate t img).1 n).lawful t := by
  cases t with
  | config =>
    exact ⟨fun _ => trivial, nofun, channelBlock_delayOverride img 0x00, channelBlock_delayOverride img 0x20⟩
  | group => exact ⟨fun _ => trivial, nofun, trivial⟩
  | view => exact ⟨fun _ => trivial, nofun, trivial⟩
  | menu => exact ⟨fun h => absurd rfl h, fun _ => parseMenu_law img, trivial⟩

/-! ### The reads -/

theorem Acts.setLoad {s : State} {t : TableId} {x : Load} (h : x.lawful t) : Acts s (s.setLoad t x) := .single (.loaded t x h)

theorem Acts.lookRunning (s : State) (t : TableId) : Acts s (s.lookRunning t) := by
  unfold State.lookRunning
  split
  · have accessed := Acts.access s (.revisionRead t)
    generalize s.access (.revisionRead t) = p at accessed ⊢
    obtain ⟨_ | w, u⟩ := p
    · dsimp only
      split
      · exact accessed.trans (Acts.setLoad (Load.lawful_reading _ _ t))
      · exact accessed
    · exact accessed.trans (Acts.busErrorMet u)
  · exact .refl
  · exact .refl

theorem Acts.lookLoading (s : State) (t : TableId) : Acts s (s.lookLoading t) := by
  unfold State.lookLoading
  split
  · exact .refl
  · have accessed := Acts.access s (.revisionRead t)
    generalize s.access (.revisionRead t) = p at accessed ⊢
    obtain ⟨_ | w, u⟩ := p
    · dsimp only
      split
      · exact accessed.trans (Acts.setLoad (Load.lawful_reading _ _ t))
      · exact accessed
    · exact accessed.trans (Acts.busErrorMet u)

theorem Acts.lookAll {s : State} {f : State → TableId → State} (h : ∀ s t, Acts s (f s t)) : Acts s (s.lookAll f) :=
  (((h s .config).andThen fun _ => h _ .group).andThen fun _ => h _ .view).andThen fun _ => h _ .menu

theorem Acts.endRead (s : State) (t : TableId) : Acts s (s.endRead t) := by
  unfold State.endRead
  split
  · exact .refl
  · exact .refl
  next r got _ =>
    have accessed := Acts.access s (.tableRead t)
    generalize s.access (.tableRead t) = p at accessed ⊢
    obtain ⟨_ | w, u⟩ := p
    · dsimp only
      have again := accessed.trans (Acts.access u (.revisionRead t))
      generalize u.access (.revisionRead t) = q at again ⊢
      obtain ⟨_ | w, v⟩ := q
      · dsimp only
        split
        · exact again.trans (Acts.setLoad (Load.lawful_validate t _ _ _))
        · exact again.trans (Acts.setLoad (Load.lawful_idle t))
      · exact (again.trans (Acts.setLoad (Load.lawful_idle t))).trans (Acts.busErrorMet _)
    · exact (accessed.trans (Acts.setLoad (Load.lawful_idle t))).trans (Acts.busErrorMet _)

theorem Acts.advanceRead (s : State) (t : TableId) : Acts s (s.advanceRead t) := by
  unfold State.advanceRead
  split
  · exact .refl
  · exact .refl
  · exact (Acts.setLoad (Load.lawful_reading _ _ t)).trans (Acts.aside {})

theorem Acts.advanceReads (s : State) : Acts s s.advanceReads :=
  Acts.andThen .refl fun _ => (((Acts.advanceRead s _).trans (Acts.advanceRead _ _)).trans (Acts.advanceRead _ _)).trans
    (Acts.advanceRead _ _)

theorem Acts.abandonRead (s : State) (t : Option TableId) : Acts s (s.abandonRead t) := by
  unfold State.abandonRead
  split
  · exact .refl
  · split
    · exact Acts.setLoad (Load.lawful_idle _)
    · exact .refl
    · exact .refl

end Sys2Proof.Machine

/-! The operations that are chains of moves: tracking, the ends of a channel's state, the frame end, glare, the console switches, the
installs and the requests. -/

namespace Sys2Proof.Machine

/-! ### Tracking and the ends of a channel's state -/

theorem Moves.onClaims (s : State) (f : List Claim → List Claim) : Moves s (s.onClaims f) := Moves.beside s _ s.work

theorem Moves.setAsk (s : State) (c : Chan) (k : Option Ask) : Moves s (s.setAsk c k) := Moves.beside s _ s.work

theorem Moves.owe (s : State) (c : Chan) (o : Option Owed) : Moves s (s.owe c o) := Moves.beside s s.claims _

theorem Moves.closeTracking (s : State) (c : Chan) (r : EndReason) : Moves s (s.closeTracking c r) := by
  unfold State.closeTracking
  exact (Acts.record s c _ _).moves.andThen fun _ => Moves.onClaims _ _

theorem Moves.endTracking (s : State) (c : Chan) (r : EndReason) : Moves s (s.endTracking c r) :=
  (Moves.closeTracking s c r).andThen fun _ => Moves.onChan {}

theorem tableLaw_nil : tableLaw [] := ⟨Nat.zero_le _, List.nodup_nil, nofun⟩

theorem Moves.startTracking (s : State) (c : Chan) (k : Pick) : Moves s (s.startTracking c k) :=
  (Moves.onClaims s _).trans (Moves.onChan { table := fun _ => tableLaw_nil })

theorem Moves.missAndGo (s : State) (c : Chan) (r : MissReason) (e : Option (Nat × Nat)) (echo : Bool) (m : Mode) :
    Moves s (s.missAndGo c r e echo m) :=
  (Acts.record s c _ _).moves.andThen fun _ => Moves.onChan {}

theorem Moves.endCalibration (s : State) (c : Chan) (o : CalOutcome) (m : Mode) : Moves s (s.endCalibration c o m) := by
  unfold State.endCalibration
  exact (Acts.record s c _ _).moves.andThen fun _ => Moves.onChan { delay := fun _ ⟨delay, _⟩ => ⟨delay, nofun⟩ }

/-! ### Calibration -/

theorem meanRounded_two_le {a b n : Nat} (ha : a ≤ n) (hb : b ≤ n) : meanRounded [a, b] ≤ n := by
  have half : (roundDiv (([a, b].sum : Nat) : Int) [a, b].length).toNat = (2 * (a + b) + 2) / 4 := by
    have positive : ¬ ((([a, b].sum : Nat) : Int) < 0) := Int.not_lt.mpr (Int.natCast_nonneg _)
    have magnitude : (([a, b].sum : Nat) : Int).natAbs = a + b := by
      rw [Int.natAbs_natCast]
      rfl
    rw [roundDiv, if_neg positive, magnitude, Int.toNat_natCast]
    rfl
  rw [meanRounded, half]
  omega

/-- The middle value of measurements within a bound is within it. -/
theorem middleTicks_le {ms : List Measure} {v n : Nat} (bound : ∀ m ∈ ms, m.ticks ≤ n) (h : middleTicks ms = some v) : v ≤ n := by
  have inRange : ∀ i, (sortedTicks ms).getD i 0 ≤ n := by
    intro i
    rcases Nat.lt_or_ge i (sortedTicks ms).length with inside | outside
    · have member : (sortedTicks ms)[i] ∈ sortedTicks ms := List.getElem_mem inside
      obtain ⟨m, inList, e⟩ := List.mem_map.mp ((List.perm_insertionSort (· ≤ ·) _).subset member)
      rw [List.getD_eq_getElem _ _ inside, ← e]
      exact bound m inList
    · rw [List.getD_eq_default _ _ outside]
      exact Nat.zero_le n
  unfold middleTicks at h
  split at h
  · cases h
  · rw [← Option.some.inj h]
    exact meanRounded_two_le (inRange 3) (inRange 4)

theorem Moves.finishCalibration (s : State) (c : Chan) : Moves s (s.finishCalibration c) := by
  unfold State.finishCalibration
  dsimp only
  split
  · refine Moves.trans (Moves.onChan { delay := fun _ ⟨delay, measures⟩ => ⟨?_, measures⟩ }) (Moves.endCalibration _ c _ _)
    dsimp only
    cases middle : middleTicks (s.chan c).measures with
    | none => exact delay
    | some v => exact middleTicks_le measures middle
  · exact Moves.endCalibration s c _ _

theorem Moves.calibrationFrame (s : State) (c : Chan) : Moves s (s.calibrationFrame c) := by
  unfold State.calibrationFrame
  have spent : Moves s (s.onChan c fun x => { x with budget := x.budget - 1 }) := Moves.onChan {}
  dsimp only
  split
  · exact spent.trans (Moves.finishCalibration _ c)
  · split
    · exact spent.trans (Moves.owe _ c _)
    · exact spent

/-! ### Picks -/

theorem Moves.pickElement (s : State) (c : Chan) (k : Pick) : Moves s (s.pickElement c k) := by
  have plain : ∀ t : State, t.regs.device ≠ .halted →
      Moves t ((t.recordPick c k {} false).andThen fun u => u.onChan c fun x => x.leavePressed.goto .watch) :=
    fun t live => (Acts.recordPick c k _ _ live).moves.andThen fun _ => Moves.onChan {}
  refine (Acts.disarm s c .pick).moves.andThen fun live => ?_
  split
  · split
    · exact Moves.setAsk _ c _
    · exact plain _ live
  · exact plain _ live

theorem Moves.windowFalls (s : State) (c : Chan) : Moves s (s.windowFalls c) := by
  unfold State.windowFalls
  have fallen : Moves s (s.onChan c fun x => { x with windowCount := x.windowCount - 1 }) := Moves.onChan {}
  dsimp only
  split
  · exact fallen.trans (Moves.owe _ c _)
  · exact fallen

theorem Moves.pressedFrame (s : State) (c : Chan) : Moves s (s.pressedFrame c) := by
  have updated : Moves s ((s.onChan c Channel.countWindow).updateQual c) :=
    (Moves.onChan {}).trans (Acts.updateQual _ c).moves
  unfold State.pressedFrame
  dsimp only
  generalize (s.onChan c Channel.countWindow).updateQual c = t at updated ⊢
  split
  · exact updated.trans (Moves.windowFalls t c)
  · split
    · exact (updated.trans (Acts.pickButton t c _).moves).andThen fun _ => Moves.onChan {}
    · exact updated.trans (Moves.pickElement t c _)

/-! ### The frame end -/

theorem Acts.moveCentre (s : State) (c : Chan) : Acts s (s.moveCentre c) := by
  unfold State.moveCentre
  dsimp only
  split
  · exact .refl
  · exact (Acts.onChan {}).trans (Acts.record _ c _ _)

theorem Moves.trackFrame (s : State) (c : Chan) : Moves s (s.trackFrame c) := by
  have lasted : Acts s (s.onChan c fun x => { x with duration := min (x.duration + 1) Config.countMax }) := Acts.onChan {}
  have counted : ∀ (t : State) (n : Nat), Moves t (t.onChan c fun x => { x with loss := if 0 < n then 0 else x.loss + 1 }) :=
    fun t n => Moves.onChan {}
  have decided : ∀ (t : State) (held lost : Prop) [Decidable held] [Decidable lost],
      Moves t (if held then t.endTracking c .dropped else if lost then t.owe c (some .lost) else t) :=
    fun t _ _ _ _ => Moves.ite (fun _ => Moves.endTracking t c _) fun _ => Moves.ite (fun _ => Moves.owe t c _) fun _ => .refl
  unfold State.trackFrame
  exact (lasted.trans (Acts.moveCentre _ c)).moves.andThen fun _ => (counted _ _).trans (decided _ _ _)

theorem Moves.glareFrame (s : State) (c : Chan) : Moves s (s.glareFrame c) := by
  unfold State.glareFrame
  dsimp only
  split
  · exact (Moves.onChan {}).trans (Moves.owe _ c _)
  · exact Moves.onChan {}

theorem Moves.modeFrame (s : State) (c : Chan) : Moves s (s.modeFrame c) := by
  unfold State.modeFrame
  split
  · exact .refl
  · exact ((Acts.updateQual s c).trans (Acts.sightPick _ c)).moves
  · exact Moves.pressedFrame s c
  · exact Moves.calibrationFrame s c
  · exact Moves.trackFrame s c
  · exact Moves.onChan {}
  · exact Moves.glareFrame s c

theorem Moves.chanFrame (s : State) (c : Chan) : Moves s (s.chanFrame c) :=
  ((Moves.modeFrame s c).andThen fun _ => (Acts.lowerCountdown _ c _).moves).andThen fun _ => (Acts.choose _ _ c).moves

theorem Moves.finishFrame (s : State) : Moves s s.finishFrame := by
  unfold State.finishFrame
  split
  · exact (Acts.writeStatus s).moves.andThen fun _ => Moves.beside _ _ _
  · exact .refl

/-! ### The owed steps -/

theorem Moves.doOwed (s : State) (c : Chan) : Moves s (s.doOwed c) := by
  unfold State.doOwed
  split
  · exact .refl
  next o _ =>
    refine Moves.andThen ?_ fun _ => (Acts.choose _ _ c).moves
    cases o with
    | reminder => exact ((Moves.owe s c none).trans (Moves.onChan {})).trans (Acts.record _ c _ _).moves
    | tooFew => exact (Moves.owe s c none).trans (Moves.endCalibration _ c _ _)
    | miss => exact (Moves.owe s c none).trans (Moves.missAndGo _ c _ _ _ _)
    | lost => exact (Moves.owe s c none).trans (Moves.endTracking _ c _)

theorem Moves.stepOwed (s : State) (c : Chan) (o : Owed) : Moves s (s.stepOwed c o) := by
  unfold State.stepOwed
  split
  · exact (Moves.doOwed s c).andThen fun _ => Moves.finishFrame _
  · exact .refl

theorem Moves.doExpiry (s : State) (c : Chan) : Moves s (s.doExpiry c) :=
  Moves.andThen (((Acts.aside {}).trans (Acts.disarm _ c .expired)).moves) fun _ => (Acts.choose _ _ c).moves

theorem Moves.stepExpiry (s : State) (c : Chan) : Moves s (s.stepExpiry c) := by
  unfold State.stepExpiry
  split
  · exact ((Moves.doOwed s c).andThen fun _ => Moves.doExpiry _ c).andThen fun _ => Moves.finishFrame _
  · exact .refl

theorem Acts.doPeriod (s : State) : Acts s s.doPeriod := by
  unfold State.doPeriod
  dsimp only
  split
  · exact .aside {}
  · exact .aside {}

theorem Moves.stepPeriod (s : State) : Moves s s.stepPeriod := by
  unfold State.stepPeriod
  split
  · exact (Acts.doPeriod s).moves.trans (Moves.finishFrame _)
  · exact .refl

theorem Moves.settleChan (s : State) (c : Chan) : Moves s (s.settleChan c) :=
  (Moves.doOwed s c).andThen fun _ => Moves.ite (fun _ => Moves.doExpiry _ c) fun _ => .refl

theorem Moves.settle (s : State) : Moves s s.settle := by
  unfold State.settle
  split
  next acts =>
    have live : s.regs.device ≠ .halted := by simp [acts.1]
    refine ((Moves.eachChan (fun c t _ => Moves.settleChan t c) live).andThen fun _ => ?_).andThen fun _ => Moves.finishFrame _
    exact Moves.ite (fun _ => (Acts.doPeriod _).moves) fun _ => .refl
  · exact .refl

/-! ### The asks -/

theorem Moves.grant (s : State) (c : Chan) (k : Ask) (r : Answer) : Moves s (s.grant c k r) := by
  cases r with
  | granted => exact (Moves.startTracking s c k.pick).trans (Acts.choose _ _ c).moves
  | contested => exact .refl
  | full => exact .refl

theorem Moves.afterAnswer {s : State} (c : Chan) (k : Ask) (r : Answer) (live : s.regs.device ≠ .halted) :
    Moves s (s.afterAnswer c k r) := by
  have asked := Moves.setAsk s c none
  have still : (s.setAsk c none).regs.device ≠ .halted := live
  have refused : ∀ n, Moves s (((s.setAsk c none).recordPick c k.pick n false).andThen fun u =>
      u.onChan c fun x => x.leavePressed.goto .watch) :=
    fun n => (asked.trans (Acts.recordPick c k.pick n false still).moves).andThen fun _ => Moves.onChan {}
  unfold State.afterAnswer
  refine Moves.andThen ?_ fun _ => (Acts.choose _ _ c).moves
  cases r with
  | granted => exact asked.trans (Acts.recordPick c k.pick _ _ still).moves
  | full => exact refused _
  | contested =>
    dsimp only
    split
    · exact refused _
    · exact asked.trans (Moves.missAndGo _ c _ _ _ _)

theorem Moves.decideAsks {s : State} (live : s.regs.device ≠ .halted) : Moves s s.decideAsks := by
  have granted : ∀ (t : State) c k r, t.regs.device ≠ .halted → (t.grant c k r).regs.device ≠ .halted := by
    intro t c k r live
    cases r <;> exact live
  unfold State.decideAsks
  split
  · exact .refl
  · exact (Moves.grant s .a _ _).trans (Moves.afterAnswer .a _ _ (granted _ _ _ _ live))
  · exact (Moves.grant s .b _ _).trans (Moves.afterAnswer .b _ _ (granted _ _ _ _ live))
  next ka kb _ _ =>
    dsimp only
    generalize pressAFirst s.beam.frame ka.press kb.press = aFirst
    have answered : ∀ ra rb (u : State), u.regs.device ≠ .halted → Moves u (u.eachChan fun c v =>
        match c with
        | .a => v.afterAnswer .a ka ra
        | .b => v.afterAnswer .b kb rb) := by
      intro ra rb u live
      refine Moves.eachChan (fun c v live => ?_) live
      cases c
      · exact Moves.afterAnswer .a ka ra live
      · exact Moves.afterAnswer .b kb rb live
    cases aFirst
    · exact ((Moves.grant s .b kb _).trans (Moves.grant _ .a ka _)).trans
        (answered _ _ _ (granted _ _ _ _ (granted _ _ _ _ live)))
    · exact ((Moves.grant s .a ka _).trans (Moves.grant _ .b kb _)).trans
        (answered _ _ _ (granted _ _ _ _ (granted _ _ _ _ live)))

theorem Moves.stepAsks (s : State) : Moves s s.stepAsks := by
  unfold State.stepAsks
  split
  next acts =>
    have live : s.regs.device ≠ .halted := by simp [acts.1]
    exact (Moves.decideAsks live).andThen fun _ => Moves.finishFrame _
  · exact .refl

theorem Moves.settleAll (s : State) : Moves s s.settleAll := (Moves.settle s).andThen fun _ => Moves.stepAsks _

/-! ### Glare -/

theorem Moves.glareEndsWork (s : State) (c : Chan) : Moves s (s.glareEndsWork c) := by
  unfold State.glareEndsWork
  split
  · exact .refl
  · exact .refl
  · exact Moves.missAndGo s c _ _ _ _
  · exact Moves.endCalibration s c _ _
  · exact Moves.closeTracking s c _
  · exact Moves.closeTracking s c _
  · exact .refl

theorem strikeLaw_emptied {x y : Channel} (law : x.strikeLaw) (count : y.strikes = x.strikes) (pending : y.pendingStrikes = [])
    (results : y.results = []) : y.strikeLaw := by
  obtain ⟨few, -⟩ := law
  refine ⟨count ▸ few, ?_⟩
  rw [pending, results]
  exact Nat.zero_le _

theorem Moves.glareBegins (s : State) (c : Chan) : Moves s (s.glareBegins c) := by
  have emptied : Moves s (s.onChan c fun x => { x with pendingStrikes := [], results := [], table := [] }) :=
    Moves.onChan { strikes := fun law => strikeLaw_emptied law rfl rfl rfl, pending := fun _ _ => rfl,
                   table := fun _ => tableLaw_nil }
  have entered : ∀ t : State, Moves t (t.onChan c Channel.enterGlare) := fun t => Moves.onChan { echo := fun _ => trivial }
  refine Moves.andThen (Moves.andThen (Moves.andThen ?_ ?_) ?_) ?_
  · exact (emptied.trans (Acts.chooseNow _ c).moves).trans (Moves.glareEndsWork _ c)
  · exact fun _ => (Acts.endCollection _ c _).moves
  · exact fun _ => (entered _).trans (Acts.chooseNow _ c).moves
  · exact fun _ => (Acts.record _ c _ _).moves

theorem Moves.glareEnds (s : State) (c : Chan) : Moves s (s.glareEnds c) := by
  refine Moves.andThen (Moves.andThen (Acts.record s c _ _).moves fun _ => Moves.onChan ?_) fun _ => (Acts.chooseNow _ c).moves
  exact { strikes := fun ⟨few, resolved⟩ => ⟨few, by dsimp only [List.length_nil]; omega⟩, pending := fun _ _ => rfl,
          table := fun _ => tableLaw_nil }

theorem Moves.lineLeaves (s : State) (c : Chan) : Moves s (s.lineLeaves c) := by
  unfold State.lineLeaves
  refine Moves.andThen (Moves.trans (Moves.onChan {}) (Moves.settle _)) fun _ => ?_
  dsimp only
  split
  · split
    · exact (Moves.onChan {}).trans (Moves.glareEnds _ c)
    · exact Moves.onChan {}
  · exact .refl

/-! ### The console switches -/

theorem Moves.pressChan (s : State) (c : Chan) (r : Role) : Moves s (s.pressChan c r) := by
  unfold State.pressChan
  split
  · exact (Moves.onChan {}).trans (Acts.chooseNow _ c).moves
  · exact .refl

theorem Moves.penSwitch (s : State) (c : Chan) (r : Role) (pressed : Bool) : Moves s (s.penSwitch c r pressed) := by
  unfold State.penSwitch
  have presented := (Acts.present s .penSwitch).moves
  generalize s.present .penSwitch = p at presented ⊢
  obtain ⟨_ | _, t⟩ := p
  · exact presented
  · dsimp only
    split
    · exact presented.trans (Moves.pressChan t c r)
    · exact presented

theorem Acts.consoleSwitch (s : State) (i : Fin 8) (pressed : Bool) : Acts s (s.consoleSwitch i pressed) := by
  unfold State.consoleSwitch
  have presented := Acts.present s .consoleSwitch
  generalize s.present .consoleSwitch = p at presented ⊢
  obtain ⟨_ | _, t⟩ := p
  · exact presented
  · dsimp only
    split
    · exact presented.trans (Acts.place t _)
    · exact presented

theorem Moves.handOn (s : State) (i : Fin 8) (pressed : Bool) : Moves s (s.handOn i pressed) := by
  unfold State.handOn
  split
  · exact Moves.penSwitch s _ _ _
  · exact (Acts.consoleSwitch s _ _).moves

theorem Acts.setInput (s : State) (i : Fin 8) (w : Switch) : Acts s (s.setInput i w) := .aside {}

theorem Moves.completeDebounce (s : State) (i : Fin 8) : Moves s (s.completeDebounce i) := by
  unfold State.completeDebounce
  dsimp only
  split
  · exact (Acts.setInput s i _).moves.trans (Moves.handOn _ i _)
  · exact (Acts.setInput s i _).moves

theorem Moves.rawChange (s : State) (i : Fin 8) (pressed : Bool) : Moves s (s.rawChange i pressed) := by
  unfold State.rawChange
  dsimp only
  split
  · exact (Acts.setInput s i _).moves
  · split
    · exact .refl
    · split
      · exact (Acts.setInput s i _).moves
      · split
        · exact (Acts.setInput s i _).moves.trans (Moves.completeDebounce _ i)
        · exact (Acts.setInput s i _).moves

/-! ### The installs -/

theorem Moves.changeEdge (s : State) (c : Chan) (e : Edge) : Moves s (s.changeEdge c e) := by
  unfold State.changeEdge
  split
  · exact Moves.onChan {}
  · dsimp only
    split
    · exact (Moves.onChan {}).trans (Moves.glareEnds _ c)
    · exact Moves.onChan {}

theorem Moves.changeThreshold (s : State) (c : Chan) (n : Nat) : Moves s (s.changeThreshold c n) := by
  unfold State.changeThreshold
  split
  · exact Moves.glareBegins s c
  · exact .refl

theorem Moves.changeHistory (s : State) (c : Chan) : Moves s (s.changeHistory c) :=
  (Moves.onChan { table := fun _ => tableLaw_nil }).trans (Acts.chooseNow _ c).moves

theorem Moves.changeFields (s : State) (c : Chan) (was now : ChannelConfig) : Moves s (s.changeFields c was now) := by
  unfold State.changeFields
  refine Moves.andThen (Moves.andThen (Moves.ite (fun _ => .refl) fun _ => Moves.changeHistory s c) fun _ => ?_) fun _ => ?_
  · exact Moves.ite (fun _ => .refl) fun _ => Moves.changeEdge _ c _
  · exact Moves.ite (fun _ => .refl) fun _ => Moves.changeThreshold _ c _

theorem Moves.disableChan (s : State) (c : Chan) : Moves s (s.disableChan c) := by
  unfold State.disableChan
  refine Moves.andThen (Moves.andThen ?_ fun _ => (Acts.endCollection _ c _).moves) fun _ => Moves.trans (Moves.onChan ?_)
    (Acts.chooseNow _ c).moves
  · split
    · exact .refl
    · exact .refl
    · exact .refl
    · exact Moves.endCalibration s c _ _
    · exact Moves.closeTracking s c _
    · exact Moves.closeTracking s c _
    · exact .refl
  · exact { strikes := fun law => strikeLaw_emptied law rfl rfl rfl, pending := fun _ _ => rfl, echo := fun _ => trivial,
            table := fun _ => tableLaw_nil }

theorem cableDelay_le (n : Nat) : cableDelay n ≤ 511 := by
  unfold cableDelay
  split <;> decide

theorem configuredDelay_le {cc : ChannelConfig} (h : cc.delayOverride ≤ 511) : configuredDelay cc ≤ 511 := by
  unfold configuredDelay
  split
  · exact cableDelay_le _
  · exact h

theorem State.chanConfig_delayOverride {s : State} (law : s.config.delayLaw) (c : Chan) : (s.chanConfig c).delayOverride ≤ 511 := by
  cases c
  · exact law.1
  · exact law.2

/-- A channel takes the configuration in use. -/
theorem Moves.installChan (s : State) (c : Chan) (was : ChannelConfig) : Moves s (s.installChan c was (s.chanConfig c)) := by
  have delayed : ∀ t : State, t.chanConfig c = s.chanConfig c → t.config.delayLaw → configuredDelay (s.chanConfig c) ≤ 511 :=
    fun t same law => configuredDelay_le (same ▸ State.chanConfig_delayOverride law c)
  have taken : Moves s (if (s.chan c).mode = .off then
      if (s.chanConfig c).enable then (s.onChan c fun x => x.enableWith (s.chanConfig c)).chooseNow c else s
    else if (s.chanConfig c).enable then s.changeFields c was (s.chanConfig c)
    else s.disableChan c) := by
    split
    · split
      · refine Moves.trans (Moves.onChan ?_) (Acts.chooseNow _ c).moves
        exact { strikes := fun _ => ⟨Nat.zero_le _, Nat.zero_le _⟩, pending := fun _ _ => rfl, echo := fun _ => trivial,
                table := fun _ => tableLaw_nil, delay := fun law ⟨_, measures⟩ => ⟨delayed s rfl law, measures⟩ }
      · exact .refl
    · split
      · exact Moves.changeFields s c _ _
      · exact Moves.disableChan s c
  unfold State.installChan
  have same := taken.sameFrame.chanConfig c
  have computed : ∀ t : State, t.chanConfig c = s.chanConfig c →
      Moves t (t.onChan c fun x => x.computeDelay (s.chanConfig c)) :=
    fun t same => Moves.onChan { delay := fun law ⟨_, measures⟩ => ⟨delayed t same law, measures⟩ }
  exact taken.andThen fun _ => Moves.ite (fun _ => computed _ same) fun _ => .refl

theorem Moves.completeReached (s : State) (l : List (Fin 8)) : Moves s (s.completeReached l) := by
  induction l generalizing s with
  | nil => exact .refl
  | cons i rest ih =>
    refine Moves.andThen ?_ fun _ => ih _
    split
    · exact Moves.completeDebounce s i
    · exact .refl

theorem Moves.installConsole (s : State) : Moves s s.installConsole :=
  Moves.trans (Acts.aside {}).moves (Moves.completeReached _ _)

theorem Moves.installConfig {s : State} (was : Configuration) (live : s.regs.device ≠ .halted) : Moves s (s.installConfig was) :=
  ((Moves.eachChan (fun c t _ => Moves.installChan t c _) live).andThen fun _ => (Acts.aside {}).moves).andThen fun _ =>
    Moves.installConsole _

/-! ### The requests -/

theorem Moves.dropTracking (s : State) (c : Chan) (e : EndReason) : Moves s (s.dropTracking c e) := by
  refine (Moves.endTracking s c e).andThen fun _ => Moves.onChan { strikes := fun ⟨few, resolved⟩ => ⟨few, ?_⟩ }
  dsimp only [List.length_nil]
  omega

/-- A request decided for a channel moves as its decision does for each channel. -/
theorem Moves.forChan {s : State} (r : RequestArgs) {f : Chan → State × ReqOutcome} (h : ∀ c, Moves s (f c).1) :
    Moves s (s.forChan r f).1 := by
  unfold State.forChan
  split
  · exact .refl
  · exact h _

theorem Moves.forEnabled {s : State} (r : RequestArgs) {f : Chan → State × ReqOutcome} (h : ∀ c, Moves s (f c).1) :
    Moves s (s.forEnabled r f).1 := by
  refine Moves.forChan r fun c => ?_
  split
  · exact .refl
  · exact h c

/-- A request decided for a channel acts as its decision does for each channel. -/
theorem Acts.forChan {s : State} (r : RequestArgs) {f : Chan → State × ReqOutcome} (h : ∀ c, Acts s (f c).1) :
    Acts s (s.forChan r f).1 := by
  unfold State.forChan
  split
  · exact .refl
  · exact h _

theorem Acts.forEnabled {s : State} (r : RequestArgs) {f : Chan → State × ReqOutcome} (h : ∀ c, Acts s (f c).1) :
    Acts s (s.forEnabled r f).1 := by
  refine Acts.forChan r fun c => ?_
  split
  · exact .refl
  · exact h c

theorem Acts.decideLock (s : State) (r : RequestArgs) (v : Bool) : Acts s (s.decideLock r v).1 := by
  refine Acts.forChan r fun c => ?_
  split
  · exact .refl
  · exact .aside {}

theorem Acts.decideLockAll (s : State) (r : RequestArgs) (v : Bool) : Acts s (s.decideLockAll r v).1 :=
  Acts.forChan r fun _ => .aside {}

theorem Moves.decideClaim (s : State) (r : RequestArgs) : Moves s (s.decideClaim r).1 := by
  unfold State.decideClaim
  split
  · exact .refl
  · split
    · exact .refl
    · dsimp only
      exact Moves.onClaims s _

theorem Moves.decideRelease (s : State) (r : RequestArgs) : Moves s (s.decideRelease r).1 := by
  unfold State.decideRelease
  split
  · exact .refl
  · dsimp only
    exact Moves.onClaims s _
  · exact Moves.dropTracking s _ _

theorem Moves.decideSuspend (s : State) (r : RequestArgs) : Moves s (s.decideSuspend r).1 := by
  refine Moves.forEnabled r fun c => ?_
  split
  · dsimp only
    exact Moves.onChan {}
  · exact .refl

theorem Moves.decideResume (s : State) (r : RequestArgs) : Moves s (s.decideResume r).1 := by
  refine Moves.forEnabled r fun c => ?_
  split
  · split
    · dsimp only
      exact Moves.onChan {}
    · exact Moves.dropTracking s c _
  · exact .refl

theorem Moves.decideCalibrate (s : State) (r : RequestArgs) : Moves s (s.decideCalibrate r).1 := by
  refine Moves.forEnabled r fun c => ?_
  split
  · dsimp only
    exact Moves.onChan { strikes := fun law => strikeLaw_emptied law rfl rfl rfl, pending := fun _ _ => rfl,
                         table := fun _ => tableLaw_nil, delay := fun _ ⟨delay, _⟩ => ⟨delay, nofun⟩ }
  · exact .refl

theorem Moves.decideCancel (s : State) (r : RequestArgs) : Moves s (s.decideCancel r).1 := by
  refine Moves.forEnabled r fun c => ?_
  split
  · exact Moves.endCalibration s c _ _
  · exact .refl

theorem Acts.decideOpen (s : State) (r : RequestArgs) : Acts s (s.decideOpen r).1 := by
  refine Acts.forEnabled r fun c => ?_
  split
  · exact .refl
  next installed =>
    split
    · exact .refl
    next room =>
      dsimp only
      refine (Acts.andThen (f := fun t => t.onMenu c fun m => m.push r.first.toNat) (Acts.disarm s c .stack) fun live =>
        Acts.onMenu fun _ law => ?_)
      obtain ⟨⟨home, height⟩, -, below⟩ := law
      have stack : ((s.disarm c .stack).menu c).stack = (s.menu c).stack := by
        rcases s.disarm_menu c .stack with e | e
        · rw [e]
        · rw [e]
      have unarmed := State.armed_disarm live
      refine ⟨⟨?_, ?_⟩, ?_, fun n member => ?_⟩
      · simp [Menu.push, home]
      · rw [Menu.push, List.length_append, stack]
        exact Nat.lt_of_not_le room
      · simp [Menu.armedLaw, Menu.push, unarmed]
      · rcases List.mem_append.mp member with old | new
        · exact below n old
        · rw [List.mem_singleton.mp new, State.disarm_tables]
          exact Nat.lt_of_not_le installed

theorem Acts.decideHome (s : State) (r : RequestArgs) : Acts s (s.decideHome r).1 := by
  refine Acts.forEnabled r fun c => ?_
  dsimp only
  refine (Acts.andThen (f := fun t => t.onMenu c Menu.cutHome) (Acts.disarm s c .home) fun live =>
    Acts.onMenu fun _ law => ?_)
  obtain ⟨⟨home, height⟩, -, below⟩ := law
  have unarmed := State.armed_disarm live
  refine ⟨⟨?_, ?_⟩, ?_, fun n member => below n (List.mem_of_mem_take member)⟩
  · simp [Menu.cutHome, List.head?_take, home]
  · exact (List.take_sublist 1 _).length_le.trans height
  · simp [Menu.armedLaw, Menu.cutHome, unarmed]

theorem Acts.decideCollect (s : State) (r : RequestArgs) : Acts s (s.decideCollect r).1 := by
  refine Acts.forEnabled r fun c => ?_
  split
  · exact .refl
  next inRange =>
    split
    · exact .refl
    · dsimp only
      refine Acts.onChan { collection := fun _ => ⟨rfl, ?_, List.nodup_nil⟩, remaining := fun _ e => ?_ }
      · exact Nat.le_of_not_lt fun above => inRange (.inr above)
      · exact inRange (.inl (Option.some.inj e))

theorem Acts.decideEndCollection (s : State) (r : RequestArgs) : Acts s (s.decideEndCollection r).1 := by
  refine Acts.forEnabled r fun c => ?_
  split
  · exact Acts.endCollection s c _
  · exact .refl

theorem Acts.decideInject (s : State) (r : RequestArgs) : Acts s (s.decideInject r).1 := by
  refine Acts.forEnabled r fun c => ?_
  split
  · exact .refl
  next inRange =>
    split
    · exact .refl
    · dsimp only
      exact Acts.onChan { echo := fun _ => Nat.le_of_not_lt inRange }

theorem Moves.dispatch (s : State) (code : BitVec 8) (r : RequestArgs) : Moves s (s.dispatch code r).1 := by
  unfold State.dispatch
  split
  · exact (Acts.decideLock s r _).moves
  · exact (Acts.decideLock s r _).moves
  · exact (Acts.decideLockAll s r _).moves
  · exact (Acts.decideLockAll s r _).moves
  · exact Moves.decideClaim s r
  · exact Moves.decideRelease s r
  · exact Moves.decideSuspend s r
  · exact Moves.decideResume s r
  · exact Moves.decideCalibrate s r
  · exact Moves.decideCancel s r
  · exact (Acts.decideOpen s r).moves
  · exact (Acts.decideHome s r).moves
  · exact (Acts.decideCollect s r).moves
  · exact (Acts.decideEndCollection s r).moves
  · exact (Acts.decideInject s r).moves
  · exact .refl

theorem Acts.complete (s : State) (o : ReqOutcome) : Acts s (s.complete o) := by
  have chosen : Acts s ({ s with requests := { s.requests with lastOutcome := o } } : State).chooseBoth := .aside {}
  unfold State.complete
  have written := chosen.trans (Acts.writeStatus _)
  generalize ({ s with requests := { s.requests with lastOutcome := o } } : State).chooseBoth.writeStatus = p at written ⊢
  obtain ⟨_ | _, t⟩ := p
  · exact written
  · exact written.trans (Acts.aside {})

theorem Moves.takeCell (s : State) (code : BitVec 8) (r : RequestArgs) : Moves s (s.takeCell code r) := by
  unfold State.takeCell
  split
  · exact .refl
  · exact ((Acts.aside {}).moves.trans (Moves.dispatch _ code r)).andThen fun _ => (Acts.complete _ _).moves

theorem Moves.sample (s : State) : Moves s s.sample := by
  unfold State.sample
  have accessed := Acts.access s .requestRead
  generalize s.access .requestRead = p at accessed ⊢
  obtain ⟨_ | w, t⟩ := p
  · exact accessed.moves.trans (Moves.takeCell t _ _)
  · exact (accessed.trans (Acts.busErrorMet t)).moves

theorem Moves.attention (s : State) : Moves s s.attention := by
  unfold State.attention
  split
  · exact .refl
  · exact (Moves.settle s).andThen fun _ => Moves.sample _

theorem Moves.request (s : State) (code : BitVec 8) (r : RequestArgs) : Moves s (s.request code r) := by
  have placed : Acts s (s.placeCell code r) := .aside ((s.placeCell_frame code r).toLogFrame.toAside (by
    rw [State.placeCell_eq]
    exact id))
  exact placed.moves.trans (Moves.attention _)

end Sys2Proof.Machine

/-! Every command, and so every step, is a chain of turns. -/

namespace Sys2Proof.Machine

/-! ### Echoes and the frame clock -/

theorem Echo.eq_due {e : Echo} {t : Nat} (h : e.dueTime = some t) : e = .due t := by
  cases e with
  | none => cases h
  | scheduled u => cases h
  | due u => rw [Option.some.inj h]

theorem State.setChan_self (s : State) (c : Chan) : s.setChan c (s.chan c) = s := by cases c <;> rfl

/-- An event presented to the Idle Monitor reaches nothing but the monitor. -/
theorem State.present_state (s : State) (k : IdleKind) : ∃ i, (s.present k).2 = { s with idle := i } := by
  unfold State.present
  split
  · dsimp only
    split
    · exact ⟨_, rfl⟩
    · exact ⟨_, rfl⟩
  · exact ⟨_, rfl⟩

/-- `t` is `s` but for one channel and the Idle Monitor. -/
def OneChan (c : Chan) (s t : State) : Prop := ∃ y i, t = { s.setChan c y with idle := i }

theorem OneChan.onChan {s t : State} {c : Chan} (h : OneChan c s t) (f : Channel → Channel) : OneChan c s (t.onChan c f) := by
  obtain ⟨y, i, rfl⟩ := h
  cases c <;> exact ⟨f y, i, rfl⟩

theorem OneChan.measure {s t : State} {c : Chan} (h : OneChan c s t) (ts : Nat) (echo : Bool) :
    OneChan c s (t.measure c ts echo) := by
  unfold State.measure
  split
  · exact h
  · split
    · exact h
    · exact h.onChan _

theorem OneChan.takeStrike {s t : State} {c : Chan} (h : OneChan c s t) (ts : Nat) (echo : Bool) :
    OneChan c s (t.takeStrike c ts echo) := by
  unfold State.takeStrike
  dsimp only
  split
  · exact h.onChan _
  · split
    · exact h.onChan _
    · exact h.onChan _

/-- Meeting a strike reaches the channel and the Idle Monitor alone. -/
theorem State.meetStrike_oneChan (s : State) (c : Chan) (ts : Nat) (echo : Bool) : OneChan c s (s.meetStrike c ts echo) := by
  have still : OneChan c s s := ⟨s.chan c, s.idle, by rw [s.setChan_self]⟩
  obtain ⟨i, present⟩ := s.present_state .strike
  have presented : OneChan c s (s.present .strike).2 := ⟨s.chan c, i, by rw [present, s.setChan_self]⟩
  unfold State.meetStrike
  split
  · generalize s.present .strike = p at presented ⊢
    obtain ⟨_ | _, t⟩ := p
    · exact presented
    · dsimp only
      split
      · split
        · exact (presented.onChan _).measure ts echo
        · exact (presented.onChan _).takeStrike ts echo
      · exact presented
  · exact still

theorem OneChan.chan_ne {s t : State} {c d : Chan} (h : OneChan c s t) (ne : d ≠ c) : t.chan d = s.chan d := by
  obtain ⟨y, i, rfl⟩ := h
  exact State.chan_setChan_ne s y ne

theorem State.chan_meetEcho {s : State} {c d : Chan} {t : Nat} (ne : d ≠ c) : (s.meetEcho c t).chan d = s.chan d :=
  ((State.meetStrike_oneChan _ c t true).chan_ne ne).trans (s.chan_setChan_ne _ ne)

theorem Turns.meetEcho {s : State} {c : Chan} {t : Nat} (due : (s.chan c).echo.dueTime = some t) : Turns s (s.meetEcho c t) :=
  Turns.trans (.single (.echoMet c t (Echo.eq_due due))) (Acts.meetStrike _ c t true).turns

theorem Turns.echoBefore (s : State) (c : Chan) (t : Nat) : Turns s (s.echoBefore c t) := by
  unfold State.echoBefore
  split
  · exact .refl
  next due => exact Turns.ite (fun _ => Turns.meetEcho due) fun _ => .refl

theorem chan_ne_other (c : Chan) : c ≠ otherChan c := by cases c <;> decide

theorem State.chan_echoBefore (s : State) (c : Chan) (t : Nat) : (s.echoBefore (otherChan c) t).chan c = s.chan c := by
  unfold State.echoBefore
  split
  · rfl
  · split
    · exact State.chan_meetEcho (chan_ne_other c)
    · rfl

theorem Turns.deliverEcho (s : State) (c : Chan) : Turns s (s.deliverEcho c) := by
  unfold State.deliverEcho
  split
  · split
    · exact .refl
    next due => exact (Turns.echoBefore s _ _).trans (Turns.meetEcho (by rw [State.chan_echoBefore, due]))
  · exact .refl

theorem Turns.saturate (s : State) : Turns s s.saturate := by
  unfold State.saturate
  split
  · exact ((Turns.deliverEcho s _).trans (Turns.deliverEcho _ _)).trans (.single .saturated)
  · exact .refl

/-! ### The close and the opening of a frame -/

/-- The frame end's work after the close of the trail. -/
theorem Moves.closeFrame {s : State} (live : s.regs.device ≠ .halted) : Moves s.closeTrail s.closeFrame := by
  have counted := Acts.countBlink s.closeTrail
  have still : s.closeTrail.countBlink.regs.device ≠ .halted := by
    have device : s.closeTrail.countBlink.regs.device = s.regs.device := by
      unfold State.countBlink
      split
      · rfl
      · rfl
    rwa [device]
  exact (counted.moves.trans (Moves.eachChan (fun c t _ => Moves.chanFrame t c) still)).andThen fun _ => Moves.finishFrame _

theorem Moves.closeWhole {s : State} (live : s.regs.device ≠ .halted) : Moves s.closeTrail s.closeWhole :=
  (Moves.closeFrame live).andThen fun _ => Moves.settleAll _

theorem Turns.closeFrame {s : State} (live : s.regs.device ≠ .halted) : Turns s s.closeFrame :=
  Turns.trans (.single .closed) (Moves.closeFrame live).turns

theorem Acts.installReport (l : Loader) (s : State) (c : Chan) : Acts s (s.installReport l c) := by
  unfold State.installReport
  split
  · exact .refl
  · exact Acts.reportDisarm s c _

theorem State.eachChan_loader {f : Chan → State → State} (h : ∀ c t, (f c t).loader = t.loader) (s : State) :
    (s.eachChan f).loader = s.loader := by
  have both : ∀ c d, ((f c { s with choices := s.choices + 1 }).andThen (f d)).loader = s.loader := by
    intro c d
    rw [State.andThen]
    split
    · exact h c _
    · exact (h d _).trans (h c _)
  rw [State.eachChan]
  split
  · exact both .b .a
  · exact both .a .b

theorem State.installReport_loader (l : Loader) (c : Chan) (s : State) : (s.installReport l c).loader = s.loader := by
  unfold State.installReport
  split
  · rfl
  · unfold State.reportDisarm
    split
    · rfl
    · exact (s.place_frame _).loader

theorem State.onRegs_aside {s : State} {f : Registers → Registers} (device : (f s.regs).device = s.regs.device)
    (areaBase : (f s.regs).areaBase = s.regs.areaBase) : Aside s (s.onRegs f) :=
  { areaBase := areaBase, device := .inl device }

/-- The installs of a FRAME START. -/
theorem Turns.install {s : State} (start : Bool) (live : s.regs.device ≠ .halted) : Turns s (s.install start) := by
  have reported : Moves s (s.eachChan (State.installReport (s.loader.installAll s.beam.frame))) :=
    Moves.eachChan (fun c t _ => (Acts.installReport _ t c).moves) live
  have same := State.eachChan_loader (State.installReport_loader (s.loader.installAll s.beam.frame)) s
  have swapped : ∀ t : State, t.loader = s.loader → Turns t
      (((t.installDisarm (s.loader.installAll s.beam.frame) .a).installDisarm (s.loader.installAll s.beam.frame) .b).swapTables
        (s.loader.installAll s.beam.frame)) := by
    intro t same
    rw [← same]
    exact .single (.swapped _)
  have told : ∀ t : State, Acts t ((t.setOutcome (s.loader.installAll s.beam.frame).outcome).writeStatus.2.andThen fun u =>
      u.onRegs fun g => { g with causes := { g.causes with load := true } }) :=
    fun t => ((Acts.aside {}).trans (Acts.writeStatus _)).andThen fun _ => .aside (State.onRegs_aside rfl rfl)
  unfold State.install
  refine Turns.ite (fun _ => .refl) fun _ => ?_
  refine Turns.andThen (Turns.andThen (Turns.andThen (reported.turns.andThen fun _ => swapped _ same) fun _ => ?_) fun live => ?_)
    fun _ => (told _).turns
  · exact Turns.ite (fun _ => (Acts.aside {}).turns) fun _ => .refl
  · exact Turns.ite (fun _ => (Moves.installConfig _ live).turns) fun _ => .refl

theorem Moves.afterInstalls (s : State) : Moves s s.afterInstalls :=
  Moves.andThen (((Acts.chooseBoth s).trans (Acts.lookAll Acts.lookRunning)).moves.andThen fun _ => Moves.sample _) fun _ =>
    (Acts.drain _).moves

theorem Turns.startFrame {s : State} (running : s.regs.device = .running) : Turns s s.startFrame := by
  have live : s.regs.device ≠ .halted := by simp [running]
  have closed : Turns s (if s.beam.isOpen then s.closeWhole else s) :=
    Turns.ite (fun _ => Turns.trans (.single .closed) (Moves.closeWhole live).turns) fun _ => .refl
  have opens : ∀ t, t = (if s.beam.isOpen then s.closeWhole else s) → t.regs.device ≠ .halted → Turns t t.openFrame := by
    intro t now still
    split at now
    · have frame := (Moves.closeWhole live).sameFrame
      rw [← now] at frame
      refine .single (.opened (by rw [frame.beam]; rfl) ?_)
      rw [frame.live still]
      exact running
    next shut =>
      rw [now]
      exact .single (.opened (by simpa using shut) running)
  unfold State.startFrame
  exact ((closed.andThen fun still => opens _ rfl still).andThen fun live => Turns.install false live).andThen fun _ =>
    (Moves.afterInstalls _).turns

theorem Turns.start {s : State} (loading : s.regs.device = .loading) : Turns s s.start :=
  Turns.andThen (Turns.trans (.single (.started loading)) (Turns.install true nofun)) fun _ => (Moves.afterInstalls _).turns

theorem Turns.paceLoading {s : State} (loading : s.regs.device = .loading) : Turns s s.paceLoading := by
  have looked : Acts s (s.lookAll State.lookLoading) := Acts.lookAll Acts.lookLoading
  refine looked.turns.andThen fun live => Turns.ite (fun _ => Turns.start ?_) fun _ => .refl
  rw [looked.settled.live live, loading]

/-! ### The registers -/

theorem State.stopValues_reset (s : State) : Reset s s.stopValues where
  closed := rfl
  chan c := by cases c <;> rfl
  menus := rfl
  claims := rfl
  loader := rfl
  log := .inr rfl
  work := rfl
  mem := rfl
  device := rfl
  areaBase := .inl rfl

theorem State.softResetValues_reset (s : State) : Reset s s.softResetValues :=
  { s.stopValues_reset with log := .inl rfl, device := rfl, areaBase := .inl rfl }

theorem State.powerOnValues_reset (s : State) : Reset s s.powerOnValues :=
  { s.softResetValues_reset with device := rfl, areaBase := .inr rfl }

theorem Turns.beginStart {s : State} (stopped : s.regs.device = .stopped) : Turns s s.beginStart := by
  have read : Acts s ((s.onRegs fun g => { g with faultKind := .none }).access .formatRead).2 :=
    (Acts.aside (State.onRegs_aside rfl rfl)).trans (Acts.access _ _)
  have same : ((s.onRegs fun g => { g with faultKind := .none }).access .formatRead).2.regs.device = s.regs.device := by
    rw [State.access_eq]
    rfl
  unfold State.beginStart
  generalize (s.onRegs fun g => { g with faultKind := .none }).access .formatRead = p at read same ⊢
  obtain ⟨_ | _, t⟩ := p
  · refine read.turns.trans (Turns.ite (fun _ => .single ?_) fun _ => (Acts.halt t _).turns)
    exact .registered { t.regs with device := .loading } id (.inr ⟨same.trans stopped, rfl⟩)
  · exact read.turns.trans (Acts.halt t _).turns

theorem Turns.writeControl (s : State) (v : Word) : Turns s (s.writeControl v) := by
  have taken : Acts s (s.onRegs fun g => { g with run := v.getLsbD 0, enables := Causes.ofWord v }) :=
    .aside (State.onRegs_aside rfl rfl)
  have stopped : Reset s (s.onRegs fun g => { g with run := v.getLsbD 0, enables := Causes.ofWord v }).stopValues :=
    { State.stopValues_reset _ with chan := s.stopValues_reset.chan }
  unfold State.writeControl
  refine Turns.ite (fun _ => .single (.reset s.softResetValues_reset)) fun _ => ?_
  unfold State.takeControl
  refine Turns.ite (fun _ => Turns.ite (fun stopped => ?_) fun _ => taken.turns) fun _ => Turns.ite (fun _ => taken.turns) fun _ => ?_
  · exact taken.turns.trans (Turns.beginStart stopped)
  · exact .single (.reset stopped)

theorem areaBaseOf_law (v : Word) : (areaBaseOf v).toNat % 4096 = 0 := by
  have low : (areaBaseOf v) &&& 0xFFF#32 = 0#32 := by
    rw [areaBaseOf, BitVec.and_assoc]
    simp
  have low : (areaBaseOf v).toNat &&& 0xFFF = 0 := by simpa using congrArg BitVec.toNat low
  rwa [show (0xFFF : Nat) = 2 ^ 12 - 1 from rfl, Nat.and_two_pow_sub_one_eq_mod] at low

theorem Turns.busErrorNow (s : State) (a : BusAccess) : Turns s (s.busErrorNow a) := by
  have met : Acts s (s.abandonRead (accessTable a)).busErrorMet := (Acts.abandonRead s _).trans (Acts.busErrorMet _)
  unfold State.busErrorNow
  split
  · exact met.turns
  · exact met.turns
  · exact Turns.ite (fun _ => (Acts.busErrorMet s).turns) fun _ => .refl
  · exact .refl

/-! ### Every command -/

theorem State.live_frameOpen {t : State} (h : t.frameOpen = true) : t.regs.device ≠ .halted := by
  obtain ⟨running, _⟩ := t.frameOpen_iff.mp h
  simp [running]

theorem exec_turns (i : Instr) (s : State) : ∃ t, exec i s = .next t ∧ Turns s t := by
  cases i with
  | frameStart =>
    refine ⟨_, rfl, ?_⟩
    split
    next running =>
      have settled := Moves.settleAll s
      exact settled.turns.andThen fun live => Turns.startFrame ((settled.sameFrame.live live).trans running)
    next loading => exact Turns.paceLoading loading
    · exact .refl
    · exact .refl
  | vectorBegin v =>
    refine ⟨_, rfl, (Moves.settleAll s).turns.andThen fun _ => Turns.ite (fun isOpen => .single (.began v ?_)) fun _ => .refl⟩
    exact ((State.frameOpen_iff _).mp isOpen).2
  | vectorEnd => exact ⟨_, rfl, (Moves.settleAll s).turns.andThen fun _ => Turns.ite (fun _ => .single .ended) fun _ => .refl⟩
  | frameEnd =>
    exact ⟨_, rfl, (Moves.settleAll s).turns.andThen fun _ => Turns.ite (fun isOpen => Turns.closeFrame (State.live_frameOpen isOpen))
      fun _ => .refl⟩
  | frameClockSaturation => exact ⟨_, rfl, Turns.saturate s⟩
  | strike c => exact ⟨_, rfl, (Acts.strikeEdge s c).turns⟩
  | lineLeavesActiveLevel c => exact ⟨_, rfl, (Moves.lineLeaves s c).turns⟩
  | glareOnset c =>
    exact ⟨_, rfl, Turns.ite (fun _ => ((Moves.settleAll s).andThen fun _ => Moves.glareBegins _ c).turns) fun _ => .refl⟩
  | glareReminder c => exact ⟨_, rfl, (Moves.stepOwed s c _).turns⟩
  | echoDelivery c => exact ⟨_, rfl, Turns.deliverEcho s c⟩
  | switchInputChange i pressed => exact ⟨_, rfl, ((Moves.settle s).trans (Moves.rawChange _ i pressed)).turns⟩
  | debounceCompletion i =>
    exact ⟨_, rfl, ((Moves.settle s).andThen fun _ => Moves.ite (fun _ => Moves.completeDebounce _ i) fun _ => .refl).turns⟩
  | idleTimeout => exact ⟨_, rfl, Turns.ite (fun _ => (Acts.aside {}).turns) fun _ => .refl⟩
  | miss c => exact ⟨_, rfl, (Moves.stepOwed s c _).turns⟩
  | askDecision => exact ⟨_, rfl, (Moves.stepAsks s).turns⟩
  | lost c => exact ⟨_, rfl, (Moves.stepOwed s c _).turns⟩
  | tooFew c => exact ⟨_, rfl, (Moves.stepOwed s c _).turns⟩
  | confirmExpiry c => exact ⟨_, rfl, (Moves.stepExpiry s c).turns⟩
  | blinkPeriodEnd => exact ⟨_, rfl, (Moves.stepPeriod s).turns⟩
  | readEnd t => exact ⟨_, rfl, Turns.ite (fun _ => (Acts.endRead s t).turns) fun _ => .refl⟩
  | lockGroup r => exact ⟨_, rfl, (Moves.request s 1 r).turns⟩
  | unlockGroup r => exact ⟨_, rfl, (Moves.request s 2 r).turns⟩
  | lockAll r => exact ⟨_, rfl, (Moves.request s 3 r).turns⟩
  | unlockAll r => exact ⟨_, rfl, (Moves.request s 4 r).turns⟩
  | claim r => exact ⟨_, rfl, (Moves.request s 5 r).turns⟩
  | release r => exact ⟨_, rfl, (Moves.request s 6 r).turns⟩
  | suspendTrack r => exact ⟨_, rfl, (Moves.request s 7 r).turns⟩
  | resumeTrack r => exact ⟨_, rfl, (Moves.request s 8 r).turns⟩
  | calibrate r => exact ⟨_, rfl, (Moves.request s 9 r).turns⟩
  | cancelCalibration r => exact ⟨_, rfl, (Moves.request s 10 r).turns⟩
  | openSheet r => exact ⟨_, rfl, (Moves.request s 11 r).turns⟩
  | homeMenu r => exact ⟨_, rfl, (Moves.request s 12 r).turns⟩
  | collect r => exact ⟨_, rfl, (Moves.request s 13 r).turns⟩
  | endCollection r => exact ⟨_, rfl, (Moves.request s 14 r).turns⟩
  | injectStrike r => exact ⟨_, rfl, (Moves.request s 15 r).turns⟩
  | unknownRequest code r => exact ⟨_, rfl, (Moves.request s code r).turns⟩
  | attentionWrite => exact ⟨_, rfl, (Moves.attention s).turns⟩
  | runSet v => exact ⟨_, rfl, Turns.writeControl s v⟩
  | stop v => exact ⟨_, rfl, Turns.writeControl s v⟩
  | softReset v => exact ⟨_, rfl, Turns.writeControl s v⟩
  | interruptEnablesWrite v => exact ⟨_, rfl, Turns.writeControl s v⟩
  | statusWrite v => exact ⟨_, rfl, (Acts.aside (State.onRegs_aside rfl rfl)).turns⟩
  | areaBaseWrite v =>
    refine ⟨_, rfl, Turns.ite (fun _ => .single ?_) fun _ => .refl⟩
    exact .registered { s.regs with areaBase := areaBaseOf v } (fun _ => areaBaseOf_law v) (.inl rfl)
  | powerOnReset => exact ⟨_, rfl, .single (.reset s.powerOnValues_reset)⟩
  | busError e => exact ⟨_, rfl, Turns.ite (fun _ => Turns.busErrorNow s e.access) fun _ => (Acts.aside {}).turns⟩

/-! ### Every step -/

theorem Acts.arrive (s : State) (x : Arrival) : Acts s (s.arrive x) := by
  cases x with
  | command i => exact .aside {}
  | hostWrite a bs => exact (Acts.advanceReads s).trans (.aside { wf := fun wf => Memory.wf_writeBytes a bs wf })

theorem step_turns (s : State) : ∃ t, step s = .next t ∧ Turns s t := by
  have first : ∀ i (u : State), Aside s u → ∃ t, exec i u = .next t ∧ Turns s t := by
    intro i u aside
    obtain ⟨t, ran, turns⟩ := exec_turns i u
    exact ⟨t, ran, (Acts.aside aside).turns.trans turns⟩
  unfold step
  split
  · exact first _ _ {}
  · unfold State.idleStep
    dsimp only
    split
    · exact ⟨_, rfl, .single .ticked⟩
    · exact first _ _ {}
    · exact ⟨_, rfl, ((Acts.aside {}).trans (Acts.arrive _ _)).turns⟩
    · split
      · exact ⟨_, rfl, ((Acts.aside {}).trans (Acts.arrive _ _)).turns⟩
      · exact first _ _ {}

/-- A law that every turn keeps is kept by every step. -/
theorem step_keeps {P : State → Prop} (kept : ∀ s t, Turn s t → P s → P t) {s t : State} (law : P s) (ran : step s = .next t) :
    P t := by
  obtain ⟨u, stepped, turns⟩ := step_turns s
  rw [stepped] at ran
  cases ran
  exact turns.keeps kept law

end Sys2Proof.Machine

/-! The laws that every step keeps: host memory and AREA BASE, the Log Writer, the qualification tables and collections, the working
delays, the menus, the trail and the strikes. -/

namespace Sys2Proof.Machine

/-! ### Turns that are neither moves nor resets -/

/-- The menus and the tables at an install. -/
def State.swap (s : State) (l : Loader) : State := ((s.installDisarm l .a).installDisarm l .b).swapTables l

/-- `t` has of `s` what the beam, the swap of the tables, the registers and the tick clock do not reach. -/
structure Kept (s t : State) : Prop where
  mem : t.mem = s.mem := by rfl
  log : t.log = s.log := by rfl
  regs : s.regs.law → t.regs.law := by exact id
  halted : s.regs.device = .halted → t.regs.device = .halted := by exact id
  delay : ∀ c, (t.chan c).delay = (s.chan c).delay := by intro c; cases c <;> rfl
  measures : ∀ c, (t.chan c).measures = (s.chan c).measures := by intro c; cases c <;> rfl
  table : ∀ c, (t.chan c).table = (s.chan c).table := by intro c; cases c <;> rfl
  collection : ∀ c, (t.chan c).collection = (s.chan c).collection := by intro c; cases c <;> rfl
  tables : (t.loader = s.loader ∧ t.menus = s.menus) ∨ ∃ n, t = s.swap (s.loader.installAll n) := by exact .inl ⟨rfl, rfl⟩

theorem State.clearArmed_eq (s : State) (c : Chan) : ∃ m f, s.clearArmed c = { s with menus := m, feedback := f } := by
  have synced : ∀ t : State, ∃ f, t.syncBlink = { t with feedback := f } := by
    intro t
    unfold State.syncBlink
    split
    · exact ⟨_, rfl⟩
    · exact ⟨_, rfl⟩
    · exact ⟨t.feedback, rfl⟩
    · exact ⟨t.feedback, rfl⟩
  unfold State.clearArmed
  split
  · exact ⟨s.menus, s.feedback, rfl⟩
  · obtain ⟨f, synced⟩ := synced (s.onMenu c fun m => { m with armed := none, countdown := 0 })
    exact ⟨_, f, synced⟩

theorem State.installDisarm_eq (s : State) (l : Loader) (c : Chan) :
    ∃ m f, s.installDisarm l c = { s with menus := m, feedback := f } := by
  unfold State.installDisarm
  split
  · exact ⟨s.menus, s.feedback, rfl⟩
  · exact s.clearArmed_eq c

/-- The swap of the tables reaches the loader, the menus and the Feedback Unit alone. -/
theorem State.swap_eq (s : State) (l : Loader) : ∃ m f o,
    s.swap l = { s with menus := m, feedback := f, loader := { l with outcome := o } } := by
  obtain ⟨m, f, first⟩ := s.installDisarm_eq l .a
  obtain ⟨m', f', second⟩ := (s.installDisarm l .a).installDisarm_eq l .b
  rw [State.swap, second, first]
  exact ⟨_, f', s.loader.outcome, rfl⟩

/-- A channel at the close of a frame (R7, R51). -/
theorem State.chan_closeTrail (s : State) (c : Chan) : s.closeTrail.chan c = (s.endVector.chan c).lapseDue := by cases c <;> rfl

theorem Channel.lapseDue_eq (x : Channel) : ∃ e, x.lapseDue = { x with echo := e } ∧ (x.echo.law → e.law) := by
  unfold Channel.lapseDue
  split
  · exact ⟨x.echo, rfl, id⟩
  · exact ⟨x.echo, rfl, id⟩
  · exact ⟨.none, rfl, fun _ => trivial⟩

theorem Channel.echoFallsDue_eq (x : Channel) : ∃ e, x.echoFallsDue = { x with echo := e } ∧ (x.echo.law → e.law) := by
  unfold Channel.echoFallsDue
  split
  · exact ⟨x.echo, rfl, id⟩
  next scheduled => exact ⟨_, rfl, fun law => by rwa [scheduled] at law⟩
  · exact ⟨x.echo, rfl, id⟩

theorem Channel.opened_eq (x : Channel) :
    ∃ e, x.opened = { x with echo := e, strikes := 0, results := [], measured := false } ∧ (x.echo.law → e.law) := by
  obtain ⟨e, falls, law⟩ := x.echoFallsDue_eq
  exact ⟨e, by rw [Channel.opened, falls], law⟩

/-- The tick clock reaches the beam, the glare timers and what no law speaks of. -/
theorem State.chan_tick (s : State) (c : Chan) : s.tick.chan c = { s.chan c with glareTimer := (s.tick.chan c).glareTimer } := by
  unfold State.tick
  dsimp only
  split
  · rfl
  · unfold State.blocksTick
    dsimp only [State.chan]
    split
    · cases c <;> rfl
    · rfl

theorem State.tick_frame (s : State) :
    s.tick = { s with beam := s.tick.beam, chans := s.tick.chans, inputs := s.tick.inputs, idle := s.tick.idle,
                      ticks := s.tick.ticks, outside := s.tick.outside } := by
  unfold State.tick
  dsimp only
  split
  · rfl
  · rfl

theorem Turn.kept {s t : State} (h : Turn s t) : Move s t ∨ Reset s t ∨ Kept s t := by
  have opened : ∀ u : State, Kept u u.openFrame := by
    intro u
    have chan := fun c => (u.chan c).opened_eq
    constructor
    case mem => rfl
    case log => rfl
    case regs => exact id
    case halted => exact id
    case tables => exact .inl ⟨rfl, rfl⟩
    all_goals
      intro c
      obtain ⟨e, opened, -⟩ := chan c
      rw [u.chan_openFrame, opened]
  cases h with
  | move h => exact .inl h
  | reset h => exact .inr (.inl h)
  | echoMet c t _ =>
    have chan := fun {α : Type} (f : Channel → α) => s.setChan_keeps (c := c) (y := { s.chan c with echo := .none }) f
    exact .inr (.inr { delay := chan _ rfl, measures := chan _ rfl, table := chan _ rfl, collection := chan _ rfl })
  | saturated => exact .inr (.inr {})
  | ended =>
    have chan := s.chan_endVector
    exact .inr (.inr ⟨rfl, rfl, id, id, fun c => by rw [chan], fun c => by rw [chan], fun c => by rw [chan], fun c => by rw [chan],
      .inl ⟨rfl, rfl⟩⟩)
  | began v _ =>
    have chan := s.chan_endVector
    refine .inr (.inr ⟨rfl, rfl, id, id, fun c => ?_, fun c => ?_, fun c => ?_, fun c => ?_, .inl ⟨rfl, rfl⟩⟩)
    all_goals rw [State.chan_beginVector, chan]
  | closed =>
    refine .inr (.inr ⟨rfl, rfl, id, id, fun c => ?_, fun c => ?_, fun c => ?_, fun c => ?_, .inl ⟨rfl, rfl⟩⟩)
    all_goals
      obtain ⟨e, lapsed, -⟩ := (s.endVector.chan c).lapseDue_eq
      rw [s.chan_closeTrail, lapsed, s.chan_endVector]
  | opened _ _ => exact .inr (.inr (opened s))
  | started loading =>
    have kept := opened (s.onRegs fun g => { g with device := .running })
    exact .inr (.inr ⟨kept.mem, kept.log, id, by simp [loading], kept.delay, kept.measures, kept.table, kept.collection,
      .inl ⟨rfl, rfl⟩⟩)
  | swapped n =>
    obtain ⟨m, f, o, swapped⟩ := s.swap_eq (s.loader.installAll n)
    have kept : Kept s { s with menus := m, feedback := f, loader := { s.loader.installAll n with outcome := o } } :=
      { tables := .inr ⟨n, swapped.symm⟩ }
    rw [← swapped] at kept
    exact .inr (.inr kept)
  | registered g law device =>
    refine .inr (.inr { regs := law, halted := fun halted => ?_ })
    rcases device with same | ⟨stopped, -⟩
    · exact same.trans halted
    · exact absurd (halted.symm.trans stopped) (by decide)
  | ticked =>
    have frame := s.tick_frame
    have chan := s.chan_tick
    refine .inr (.inr ⟨by rw [frame], by rw [frame], by rw [frame]; exact id, by rw [frame]; exact id, ?_, ?_, ?_, ?_, .inl ⟨by rw [frame], by rw [frame]⟩⟩)
    all_goals
      intro c
      rw [chan]

/-! ### Host memory and AREA BASE -/

def State.memoryInv (s : State) : Prop := Memory.wf s.mem ∧ s.regs.law

theorem Turn.keeps_memoryInv {s t : State} (h : Turn s t) (law : s.memoryInv) : t.memoryInv := by
  obtain ⟨wf, base⟩ := law
  rcases h.kept with move | reset | kept
  · cases move with
    | act h =>
      have settled := h.settled
      have base : t.regs.law := by rw [Registers.law, settled.areaBase]; exact base
      cases h with
      | aside h => exact ⟨h.wf wf, base⟩
      | revised c y _ _ _ => exact ⟨wf, base⟩
      | picked c k _ _ h _ => exact ⟨h.wf wf, base⟩
      | menued c m _ => exact ⟨wf, base⟩
      | loaded i x _ => exact ⟨wf, base⟩
    | moved c y k w h => exact ⟨wf, base⟩
  · refine ⟨by rw [reset.mem]; exact wf, ?_⟩
    rcases reset.areaBase with same | zero
    · rw [Registers.law, same]; exact base
    · rw [Registers.law, zero]; rfl
  · exact ⟨by rw [kept.mem]; exact wf, kept.regs base⟩

/-- Settles O5: no primitive update leaves host memory out of its canonical form, and AREA BASE is written by AREA BASE WRITE and the
resets alone. -/
theorem stepKeepsMemoryAndBase : Obligations.StepKeepsMemoryAndBase := by
  unfold Obligations.StepKeepsMemoryAndBase
  exact fun s t wf base ran => step_keeps (P := State.memoryInv) (fun _ _ => Turn.keeps_memoryInv) ⟨wf, base⟩ ran

/-! ### The Log Writer -/

theorem Turn.keeps_logLaw {s t : State} (h : Turn s t) (law : s.log.law) : t.log.law := by
  rcases h.kept with move | reset | kept
  · cases move with
    | act h =>
      cases h with
      | aside h => exact h.log law
      | revised c y _ _ _ => exact law
      | picked c k _ _ h _ => exact h.log law
      | menued c m _ => exact law
      | loaded i x _ => exact law
    | moved c y k w h => exact law
  · have empty : ∀ n < 64, LogWriter.law ⟨n, 0, []⟩ := fun n below => ⟨below, Nat.zero_lt_succ _, fun _ => ⟨Nat.zero_le _, Nat.zero_le _⟩⟩
    rcases reset.log with log | log
    · rw [log]; exact empty 0 (by decide)
    · rw [log]; exact empty _ law.1
  · rw [kept.log]; exact law

/-- Settles O8: a record joins a full hold never, and a TRACK record only in place of the one held there. -/
theorem stepKeepsLogLaw : Obligations.StepKeepsLogLaw := by
  unfold Obligations.StepKeepsLogLaw
  exact fun s t law ran => step_keeps (P := fun s => s.log.law) (fun _ _ => Turn.keeps_logLaw) law ran

/-! ### The qualification tables and the collections -/

/-- The law of a channel's table and collection. -/
def State.pickInv (s : State) (c : Chan) : Prop := tableLaw (s.chan c).table ∧ s.collectInv c

theorem State.pickInv.onDevice {s t : State} {c : Chan} (law : s.pickInv c) (table : (t.chan c).table = (s.chan c).table)
    (collection : (t.chan c).collection = (s.chan c).collection)
    (halted : s.regs.device = .halted → t.regs.device = .halted) : t.pickInv c := by
  obtain ⟨tableLaw, collected, remaining⟩ := law
  exact ⟨by rwa [table], by rwa [collection], by rw [collection]; exact remaining.imp_left halted⟩

theorem Aside.halted {s t : State} (h : Aside s t) (halted : s.regs.device = .halted) : t.regs.device = .halted :=
  h.device.elim (fun same => same.trans halted) id

theorem State.pickInv_setChan {s : State} {c : Chan} {y : Channel} (h : s.Keeps c y) (law : ∀ d, s.pickInv d) (d : Chan) :
    (s.setChan c y).pickInv d := by
  by_cases e : d = c
  · subst e
    obtain ⟨table, collected, remaining⟩ := law d
    rw [State.pickInv, State.collectInv, State.chan_setChan]
    exact ⟨h.table table, h.collection collected, remaining.imp_right h.remaining⟩
  · have other := s.chan_setChan_ne y e
    exact (law d).onDevice (by rw [other]) (by rw [other]) id

theorem Turn.keeps_pickInv {s t : State} (h : Turn s t) (law : ∀ c, s.pickInv c) : ∀ c, t.pickInv c := by
  rcases h.kept with move | reset | kept
  · cases move with
    | act h =>
      cases h with
      | aside h => exact fun c => (law c).onDevice (by rw [h.chan c]) (by rw [h.chan c]) h.halted
      | revised c y keeps _ _ => exact State.pickInv_setChan keeps law
      | picked c k live joined h rest =>
        intro d
        by_cases e : d = c
        · subst e
          obtain ⟨table, collected, remaining⟩ := law d
          have chan := h.chan d
          rw [State.chan_onChan] at chan
          rw [State.pickInv, State.collectInv, chan]
          exact ⟨table, joined (remaining.resolve_left live) collected, rest⟩
        · have chan := h.chan d
          rw [State.chan_onChan_ne s _ e] at chan
          exact (law d).onDevice (by rw [chan]) (by rw [chan]) h.halted
      | menued c m _ => exact law
      | loaded i x _ => exact law
    | moved c y k w keeps => exact State.pickInv_setChan keeps law
  · intro c
    have chan := reset.chan c
    exact ⟨by rw [chan]; exact tableLaw_nil, by rw [chan]; exact trivial, .inr (by rw [chan]; exact nofun)⟩
  · exact fun c => (law c).onDevice (kept.table c) (kept.collection c) kept.halted

/-- Settles O12: the tables and collections of both channels, from update to update. -/
theorem stepKeepsTableAndCollectionLaws : Obligations.StepKeepsTableAndCollectionLaws := by
  unfold Obligations.StepKeepsTableAndCollectionLaws
  exact fun s t law ran => step_keeps (P := fun s => ∀ c, s.pickInv c) (fun _ _ => Turn.keeps_pickInv) law ran

end Sys2Proof.Machine

/-! The laws that every step keeps, continued: the working delays and the menus, with what an install puts in use. -/

namespace Sys2Proof.Machine

/-! ### The tables that an install puts in use -/

theorem Quad.get_set {α : Type} (q : Quad α) (t u : TableId) (v : α) : (q.set t v).get u = if u = t then v else q.get u := by
  by_cases e : u = t
  · subst e
    rw [Quad.get_set_same, if_pos rfl]
  · rw [Quad.get_set_ne q v e, if_neg e]

theorem Quad.forall_get {α : Type} (q : Quad α) (p : TableId → α → Prop) :
    (∀ t, p t (q.get t)) ↔ p .config q.config ∧ p .group q.group ∧ p .view q.view ∧ p .menu q.menu :=
  ⟨fun h => ⟨h .config, h .group, h .view, h .menu⟩, fun ⟨config, group, view, menu⟩ t => by
    cases t
    · exact config
    · exact group
    · exact view
    · exact menu⟩

/-- A table that is worked through at an install is one that waits. -/
theorem get_of_mem_waitingTables {l : Quad Load} {w : TableId × Word × TableData × Nat} (h : w ∈ waitingTables l) :
    l.get w.1 = .waiting w.2.1 w.2.2.1 w.2.2.2 := by
  obtain ⟨t, -, found⟩ := List.mem_filterMap.mp h
  cases load : l.get t with
  | idle => simp [load] at found
  | reading r got => simp [load] at found
  | waiting r d n =>
    rw [load] at found
    rw [← Option.some.inj found, load]

/-- What holds of the tables in use and stays so as each waiting copy is put in use holds after the install. -/
theorem Loader.installAll_tables {P : Tables → Prop} (l : Loader) (n : Nat) (start : P l.tables)
    (put : ∀ i r d k, l.loads.get i = .waiting r d k → ∀ t, P t → P (t.put d)) : P (l.installAll n).tables :=
  List.foldlRecOn _ _ start fun t law w member => put w.1 _ _ _ (get_of_mem_waitingTables member) t law

theorem Loader.installAll_loads (l : Loader) (n : Nat) (t : TableId) :
    (l.installAll n).loads.get t = l.loads.get t ∨ (l.installAll n).loads.get t = .idle := by
  have each : ∀ t, (l.installAll n).loads.get t = l.loads.get t ∨ (l.installAll n).loads.get t = .idle := by
    refine List.foldlRecOn (motive := fun q : Quad Load => ∀ t, q.get t = l.loads.get t ∨ q.get t = .idle) _ _ (fun t => .inl rfl) ?_
    intro q law w _ t
    rw [Quad.get_set]
    split
    · exact .inr rfl
    · exact law t
  exact each t

theorem foldl_set_true (ws : List (TableId × Word × TableData × Nat)) (q : Quad Bool) (t : TableId) :
    (ws.foldl (fun q w => q.set w.1 true) q).get t = (q.get t || ws.any fun w => w.1 == t) := by
  induction ws generalizing q with
  | nil => simp
  | cons w rest ih =>
    rw [List.foldl_cons, ih, Quad.get_set, List.any_cons]
    by_cases e : t = w.1
    · simp [e]
    · simp [e, beq_false_of_ne (Ne.symm e)]

/-- An install that leaves the menu table out leaves the sheets as they are. -/
theorem Loader.installAll_sheets {l : Loader} {n : Nat} (others : ∀ t, t ≠ .menu → (l.loads.get t).noMenu)
    (out : (l.installAll n).outcome.installed.menu = false) : (l.installAll n).tables.sheets = l.tables.sheets := by
  refine List.foldlRecOn (motive := fun t : Tables => t.sheets = l.tables.sheets) _ _ rfl ?_
  intro t same w member
  have waits := get_of_mem_waitingTables member
  have other : w.1 ≠ .menu := by
    intro e
    have installed : (l.installAll n).outcome.installed.get .menu = true := by
      have told := foldl_set_true (waitingTables l.loads) ⟨false, false, false, false⟩ .menu
      refine told.trans ?_
      rw [Bool.or_eq_true_iff]
      exact .inr (List.any_eq_true.mpr ⟨w, member, by simp [e]⟩)
    exact absurd (out.symm.trans installed) (by decide)
  have lawful := others w.1 other
  rw [waits] at lawful
  cases data : w.2.2.1 with
  | config c => exact same
  | group g => exact same
  | view v => exact same
  | menu m => simp [data, Load.noMenu] at lawful

/-! ### The working delays -/

theorem State.delayInv_iff (s : State) :
    s.delayInv ↔ (∀ c, (s.chan c).delayLaw) ∧ s.config.delayLaw ∧ ∀ t, (s.loader.loads.get t).delayLaw := by
  have chans : (∀ c, (s.chan c).delayLaw) ↔ s.chans.a.delayLaw ∧ s.chans.b.delayLaw :=
    ⟨fun h => ⟨h .a, h .b⟩, fun ⟨a, b⟩ c => by
      cases c
      · exact a
      · exact b⟩
  rw [chans, Quad.forall_get s.loader.loads fun _ x => x.delayLaw, and_assoc]
  exact Iff.rfl

theorem State.setLoad_loads {s : State} {P : TableId → Load → Prop} {t : TableId} {x : Load}
    (h : ∀ u, P u (s.loader.loads.get u)) (new : P t x) (u : TableId) : P u ((s.setLoad t x).loader.loads.get u) := by
  rw [State.setLoad]
  dsimp only
  rw [Quad.get_set]
  split
  next e => exact e ▸ new
  next => exact h u

/-- The configuration that an install puts in use keeps the range of its delay overrides. -/
theorem Loader.installAll_delayLaw {l : Loader} (n : Nat) (config : (l.tables.config.getD defaultConfiguration).delayLaw)
    (loads : ∀ t, (l.loads.get t).delayLaw) : ((l.installAll n).tables.config.getD defaultConfiguration).delayLaw := by
  refine Loader.installAll_tables (P := fun t => (t.config.getD defaultConfiguration).delayLaw) l n config ?_
  intro i r d k waits t law
  cases d with
  | config c =>
    have waiting := loads i
    rwa [waits] at waiting
  | group g => exact law
  | view v => exact law
  | menu m => exact law

theorem Turn.keeps_delayInv {s t : State} (h : Turn s t) (law : s.delayInv) : t.delayInv := by
  rw [State.delayInv_iff] at law ⊢
  obtain ⟨chans, config, loads⟩ := law
  have setChan : ∀ c y, y.delayLaw → ∀ d, ((s.setChan c y).chan d).delayLaw := by
    intro c y lawful d
    by_cases e : d = c
    · subst e
      rw [State.chan_setChan]
      exact lawful
    · rw [s.chan_setChan_ne y e]
      exact chans d
  have aside : ∀ u : State, (∀ c, (u.chan c).delayLaw) → Aside u t → u.loader = s.loader →
      (∀ c, (t.chan c).delayLaw) ∧ t.config.delayLaw ∧ ∀ i, (t.loader.loads.get i).delayLaw := by
    intro u chans h same
    refine ⟨fun c => ?_, ?_, fun i => ?_⟩
    · rw [h.chan c]
      exact chans c
    · rw [State.config, h.tables, same]
      exact config
    · rw [h.loads, same]
      exact loads i
  rcases h.kept with move | reset | kept
  · cases move with
    | act h =>
      cases h with
      | aside h => exact aside s chans h rfl
      | revised c y keeps _ _ => exact ⟨setChan c y (keeps.delay config (chans c)), config, loads⟩
      | picked c k _ _ h _ => exact aside _ (setChan c { s.chan c with collection := k } (chans c)) h rfl
      | menued c m _ => exact ⟨chans, config, loads⟩
      | loaded i x lawful => exact ⟨chans, config, State.setLoad_loads (P := fun _ x => x.delayLaw) loads lawful.2.2⟩
    | moved c y k w keeps => exact ⟨setChan c y (keeps.delay config (chans c)), config, loads⟩
  · refine ⟨fun c => ?_, ?_, fun i => ?_⟩
    · rw [reset.chan c]
      exact ⟨Nat.zero_le _, nofun⟩
    · rw [State.config, reset.loader]
      exact ⟨Nat.zero_le _, Nat.zero_le _⟩
    · rw [reset.loader]
      cases i <;> exact trivial
  · have chans : ∀ c, (t.chan c).delayLaw := by
      intro c
      rw [Channel.delayLaw, kept.delay c, kept.measures c]
      exact chans c
    rcases kept.tables with ⟨same, -⟩ | ⟨n, swapped⟩
    · exact ⟨chans, by rwa [State.config, same], by rwa [same]⟩
    · obtain ⟨m, f, o, swap⟩ := s.swap_eq (s.loader.installAll n)
      rw [swap] at swapped
      subst swapped
      refine ⟨chans, Loader.installAll_delayLaw n config loads, fun i => ?_⟩
      rcases s.loader.installAll_loads n i with same | idle
      · exact same ▸ loads i
      · exact idle ▸ trivial

/-- Settles O11: a working delay is a cable delay, an override within its range, or the mean of two measurements. -/
theorem stepKeepsDelayRange : Obligations.StepKeepsDelayRange := by
  unfold Obligations.StepKeepsDelayRange
  exact fun s t law ran => step_keeps (P := State.delayInv) (fun _ _ => Turn.keeps_delayInv) law ran

/-! ### The menus -/

theorem State.menuInv_iff (s : State) :
    s.menuInv ↔ (∀ c, s.menuLaws (s.menu c)) ∧ menuTableLaw s.tables.sheets ∧
      ∀ t, (t ≠ .menu → (s.loader.loads.get t).noMenu) ∧ (t = .menu → (s.loader.loads.get t).menuLaw) := by
  rw [Quad.forall_get s.loader.loads fun t x => (t ≠ .menu → x.noMenu) ∧ (t = .menu → x.menuLaw)]
  constructor
  · rintro ⟨lawA, lawB, armedA, armedB, belowA, belowB, table, config, group, view, menu⟩
    refine ⟨fun c => ?_, table, ⟨fun _ => config, nofun⟩, ⟨fun _ => group, nofun⟩, ⟨fun _ => view, nofun⟩,
      fun e => absurd rfl e, fun _ => menu⟩
    cases c
    · exact ⟨lawA, armedA, belowA⟩
    · exact ⟨lawB, armedB, belowB⟩
  · rintro ⟨menus, table, ⟨config, -⟩, ⟨group, -⟩, ⟨view, -⟩, -, menu⟩
    obtain ⟨lawA, armedA, belowA⟩ := menus .a
    obtain ⟨lawB, armedB, belowB⟩ := menus .b
    exact ⟨lawA, lawB, armedA, armedB, belowA, belowB, table, config nofun, group nofun, view nofun, menu rfl⟩

/-- The menu table that an install puts in use is lawful. -/
theorem Loader.installAll_menuTableLaw {l : Loader} (n : Nat) (table : menuTableLaw l.tables.sheets)
    (loads : ∀ t, (t ≠ .menu → (l.loads.get t).noMenu) ∧ (t = .menu → (l.loads.get t).menuLaw)) :
    menuTableLaw (l.installAll n).tables.sheets := by
  refine Loader.installAll_tables (P := fun t => menuTableLaw t.sheets) l n table ?_
  intro i r d k waits t law
  cases d with
  | config c => exact law
  | group g => exact law
  | view v => exact law
  | menu m =>
    obtain ⟨others, own⟩ := loads i
    rw [waits] at others own
    by_cases e : i = .menu
    · exact own e
    · exact (others e).elim

/-- `t` is `s` after disarmings: of the menus only armed buttons and countdowns have gone. -/
structure Disarming (s t : State) : Prop where
  chans : t.chans = s.chans
  home : ∀ c, (t.menu c).home = (s.menu c).home
  stack : ∀ c, (t.menu c).stack = (s.menu c).stack
  armed : ∀ c, (t.menu c).armed = (s.menu c).armed ∨ (t.menu c).armed = none

theorem Disarming.trans {s t u : State} (h : Disarming s t) (k : Disarming t u) : Disarming s u where
  chans := k.chans.trans h.chans
  home c := (k.home c).trans (h.home c)
  stack c := (k.stack c).trans (h.stack c)
  armed c := (k.armed c).elim (fun e => e ▸ h.armed c) .inr

theorem State.menu_clearArmed_ne (s : State) {c d : Chan} (ne : d ≠ c) : (s.clearArmed c).menu d = s.menu d := by
  unfold State.clearArmed
  split
  · rfl
  · rw [State.menu, State.syncBlink_menus]
    exact Pair.get_set_ne _ _ ne

theorem State.clearArmed_disarming (s : State) (c : Chan) : Disarming s (s.clearArmed c) := by
  obtain ⟨m, f, cleared⟩ := s.clearArmed_eq c
  have own := s.menu_clearArmed c
  have menus : ∀ d, ((s.clearArmed c).menu d).home = (s.menu d).home ∧ ((s.clearArmed c).menu d).stack = (s.menu d).stack ∧
      (((s.clearArmed c).menu d).armed = (s.menu d).armed ∨ ((s.clearArmed c).menu d).armed = none) := by
    intro d
    by_cases e : d = c
    · subst e
      rw [own]
      split
      · exact ⟨rfl, rfl, .inl rfl⟩
      · exact ⟨rfl, rfl, .inr rfl⟩
    · rw [s.menu_clearArmed_ne e]
      exact ⟨rfl, rfl, .inl rfl⟩
  exact ⟨by rw [cleared], fun d => (menus d).1, fun d => (menus d).2.1, fun d => (menus d).2.2⟩

theorem State.installDisarm_disarming (s : State) (l : Loader) (c : Chan) : Disarming s (s.installDisarm l c) := by
  unfold State.installDisarm
  split
  · exact ⟨rfl, fun _ => rfl, fun _ => rfl, fun _ => .inl rfl⟩
  · exact s.clearArmed_disarming c

/-- An install's cause of a disarming does not depend on what has been disarmed. -/
theorem Disarming.installCause {s t : State} (h : Disarming s t) (l : Loader) (c : Chan) : t.installCause l c = s.installCause l c := by
  rw [State.installCause, State.installCause, State.enables, State.enables, h.home c, State.chan, h.chans]
  rfl

theorem State.armed_installDisarm {s : State} {l : Loader} {c : Chan} (cause : s.installCause l c ≠ none) :
    ((s.installDisarm l c).menu c).armed = none := by
  unfold State.installDisarm
  split
  next none => exact absurd none cause
  next => exact s.armed_clearArmed c

/-- After an install's disarmings no button is armed in a menu that the install reaches. -/
theorem State.armed_installDisarms {s : State} {l : Loader} {c : Chan} (cause : s.installCause l c ≠ none) :
    (((s.installDisarm l .a).installDisarm l .b).menu c).armed = none := by
  have first := s.installDisarm_disarming l .a
  have second := (s.installDisarm l .a).installDisarm_disarming l .b
  cases c with
  | a =>
    rcases second.armed .a with same | none
    · exact same.trans (State.armed_installDisarm cause)
    · exact none
  | b => exact State.armed_installDisarm (by rw [first.installCause]; exact cause)

theorem homeInUse_lt {cfg : Configuration} {t : Tables} (c : Chan) (h : t.sheets ≠ []) : homeInUse cfg t c < t.sheets.length := by
  unfold homeInUse
  split
  next below => exact below
  next => exact List.length_pos_of_ne_nil h

/-- A menu cut at an install keeps its laws, with nothing armed. -/
theorem Menu.afterTable_laws {m : Menu} {sheets : List Sheet} {home : Nat} (law : m.law) (same : m.home = home)
    (below : home < sheets.length) : (m.afterTable sheets).law := by
  obtain ⟨bottom, height⟩ := law
  refine ⟨?_, ((List.takeWhile_prefix _).length_le).trans height⟩
  cases stack : m.stack with
  | nil => simp [stack] at bottom
  | cons n rest =>
    rw [stack] at bottom
    have first : n = m.home := Option.some.inj bottom
    rw [Menu.afterTable, stack, List.takeWhile_cons_of_pos (by simp [first, same, below]), List.head?_cons, first]

theorem Menu.home_laws {m : Menu} {n : Nat} (home : m.home = n) (stack : m.stack = [n]) : m.law :=
  ⟨by rw [stack, home]; rfl, by rw [stack]; exact Nat.le_add_left 1 3⟩

/-- An install that disarms nothing in a channel leaves its menu as it is. -/
theorem State.installMenu_same {s : State} {l : Loader} {c : Chan} (cause : s.installCause l c = none) :
    s.installMenu l c = s.menu c ∧ l.outcome.installed.menu = false := by
  unfold State.installCause at cause
  have table : l.outcome.installed.menu = false := by
    by_contra installed
    rw [if_pos (by simpa using installed)] at cause
    cases cause
  have home : (s.menu c).home = homeInUse (l.tables.config.getD defaultConfiguration) l.tables c := by
    by_contra moved
    rw [if_neg (by simp [table]), if_pos (Ne.symm moved)] at cause
    cases cause
  have enabling : s.enables l c = false := by
    by_contra enables
    rw [if_neg (by simp [table]), if_neg (by simp [home]), if_pos (by simpa using enables)] at cause
    cases cause
  refine ⟨?_, table⟩
  simp [State.installMenu, table, enabling, Menu.withHome, home]

/-- The three laws of a menu, for a sheet count. -/
def Menu.lawsBelow (m : Menu) (k : Nat) : Prop := m.law ∧ m.armedLaw ∧ ∀ n ∈ m.stack, n < k

theorem Menu.lawsBelow_home {m : Menu} {k : Nat} (unarmed : m.armed = none) (stack : m.stack = [m.home]) (home : m.home < k) :
    m.lawsBelow k := by
  refine ⟨Menu.home_laws rfl stack, by simp [Menu.armedLaw, unarmed], fun n member => ?_⟩
  rw [stack, List.mem_singleton] at member
  rwa [member]

@[simp] theorem Menu.home_withHome (m : Menu) (home : Nat) : (m.withHome home).home = home := by
  rw [Menu.withHome]
  split
  next same => exact same
  next => rfl

@[simp] theorem Menu.armed_withHome (m : Menu) (home : Nat) : (m.withHome home).armed = m.armed := by
  rw [Menu.withHome]
  split
  next => rfl
  next => rfl

theorem Menu.lawsBelow_withHome {m : Menu} {home k : Nat} (unarmed : m.armed = none) (law : m.home = home → m.law)
    (below : ∀ n ∈ m.stack, n < k) (inUse : home < k) : (m.withHome home).lawsBelow k := by
  rw [Menu.withHome]
  split
  next same => exact ⟨law same, by simp [Menu.armedLaw, unarmed], below⟩
  next => exact Menu.lawsBelow_home unarmed rfl inUse

/-- A menu after an install (R120, R121). -/
theorem State.installMenu_laws {s : State} {l : Loader} {c : Chan} {k : Nat} (table : l.tables.sheets ≠ [])
    (laws : (s.menu c).lawsBelow k) (out : l.outcome.installed.menu = false → l.tables.sheets.length = k)
    (unarmed : s.installCause l c ≠ none → (s.menu c).armed = none) : (s.installMenu l c).lawsBelow l.tables.sheets.length := by
  by_cases cause : s.installCause l c = none
  · obtain ⟨same, left⟩ := State.installMenu_same cause
    rw [same, out left]
    exact laws
  have none := unarmed cause
  have home := homeInUse_lt (cfg := l.tables.config.getD defaultConfiguration) c table
  obtain ⟨law, -, below⟩ := laws
  rw [State.installMenu]
  split
  next =>
    split
    next => exact Menu.lawsBelow_home ((Menu.armed_withHome _ _).trans none) rfl (by simpa [Menu.toHome] using home)
    next => exact Menu.lawsBelow_home ((Menu.armed_withHome _ _).trans none) rfl (by simpa [Menu.toHome] using home)
  next =>
    split
    next =>
      refine Menu.lawsBelow_withHome none (fun same => Menu.afterTable_laws law same home) (fun n member => ?_) home
      exact of_decide_eq_true (List.mem_takeWhile_imp (p := fun n => decide (n < l.tables.sheets.length)) member)
    next left => exact Menu.lawsBelow_withHome none (fun _ => law) (by rwa [out (by simpa using left)]) home

theorem State.menuLaws_swap {s : State} (n : Nat) (menus : ∀ c, s.menuLaws (s.menu c)) (table : menuTableLaw s.tables.sheets)
    (loads : ∀ t, (t ≠ .menu → (s.loader.loads.get t).noMenu) ∧ (t = .menu → (s.loader.loads.get t).menuLaw)) (c : Chan) :
    (s.swap (s.loader.installAll n)).menuLaws ((s.swap (s.loader.installAll n)).menu c) := by
  have disarmed := (s.installDisarm_disarming (s.loader.installAll n) .a).trans
    (State.installDisarm_disarming _ (s.loader.installAll n) .b)
  have unarmed : s.installCause (s.loader.installAll n) c ≠ none → _ := State.armed_installDisarms
  obtain ⟨⟨bottom, height⟩, armed, below⟩ := menus c
  have installed : (s.swap (s.loader.installAll n)).menu c =
      ((s.installDisarm (s.loader.installAll n) .a).installDisarm (s.loader.installAll n) .b).installMenu
        (s.loader.installAll n) c := by
    cases c <;> rfl
  rw [installed]
  refine State.installMenu_laws (k := s.tables.sheets.length) (Loader.installAll_menuTableLaw n table loads).1 ⟨⟨?_, ?_⟩, ?_, ?_⟩
    (fun left => by rw [Loader.installAll_sheets (fun t => (loads t).1) left]; rfl)
    fun cause => unarmed (by rwa [disarmed.installCause] at cause)
  · rw [disarmed.stack, disarmed.home, bottom]
  · rwa [disarmed.stack]
  · rcases disarmed.armed c with same | none
    · rw [Menu.armedLaw, same, Menu.top, disarmed.stack]
      exact armed
    · simp [Menu.armedLaw, none]
  · rwa [disarmed.stack]

theorem Turn.keeps_menuInv {s t : State} (h : Turn s t) (law : s.menuInv) : t.menuInv := by
  rw [State.menuInv_iff] at law ⊢
  obtain ⟨menus, table, loads⟩ := law
  have aside : ∀ u : State, Aside u t → u.menus = s.menus → u.loader = s.loader → (∀ c, t.menuLaws (t.menu c)) ∧
      menuTableLaw t.tables.sheets ∧
      ∀ i, (i ≠ .menu → (t.loader.loads.get i).noMenu) ∧ (i = .menu → (t.loader.loads.get i).menuLaw) := by
    intro u h menu same
    have tables : t.tables = s.tables := h.tables.trans (by rw [same]; rfl)
    refine ⟨fun c => ?_, by rwa [tables], fun i => by rw [h.loads, same]; exact loads i⟩
    rw [State.menuLaws, tables, State.menu, h.menus, menu]
    exact menus c
  rcases h.kept with move | reset | kept
  · cases move with
    | act h =>
      cases h with
      | aside h => exact aside s h rfl rfl
      | revised c y _ _ _ => exact ⟨menus, table, loads⟩
      | picked c k _ _ h _ => exact aside _ h rfl rfl
      | menued c m lawful =>
        refine ⟨fun d => ?_, table, loads⟩
        by_cases e : d = c
        · subst e
          rw [State.menu, Pair.get_set_same]
          exact lawful table (menus d)
        · rw [State.menu, Pair.get_set_ne _ _ e]
          exact menus d
      | loaded i x lawful =>
        exact ⟨menus, table, State.setLoad_loads (P := fun i x => (i ≠ .menu → x.noMenu) ∧ (i = .menu → x.menuLaw)) loads
          ⟨lawful.1, lawful.2.1⟩⟩
    | moved c y k w _ => exact ⟨menus, table, loads⟩
  · refine ⟨fun c => ?_, ?_, fun i => ?_⟩
    · rw [State.menuLaws, State.tables, reset.loader, State.menu, reset.menus]
      cases c <;> exact ⟨⟨rfl, by decide⟩, trivial, by decide⟩
    · rw [State.tables, reset.loader]
      exact ⟨nofun, fun sh member b inside => by simp [List.mem_singleton.mp member] at inside⟩
    · rw [reset.loader]
      cases i <;> exact ⟨fun _ => trivial, fun _ => trivial⟩
  · rcases kept.tables with ⟨loader, menu⟩ | ⟨n, swapped⟩
    · rw [State.tables, loader]
      refine ⟨fun c => ?_, table, loads⟩
      rw [State.menuLaws, State.tables, loader, State.menu, menu]
      exact menus c
    · have laws := State.menuLaws_swap n menus table loads
      rw [← swapped] at laws
      obtain ⟨m, f, o, swap⟩ := s.swap_eq (s.loader.installAll n)
      rw [swap] at swapped
      refine ⟨laws, ?_, fun i => ?_⟩
      · rw [swapped]
        exact Loader.installAll_menuTableLaw n table loads
      · rw [swapped]
        rcases s.loader.installAll_loads n i with same | idle
        · exact same ▸ loads i
        · exact idle ▸ ⟨fun _ => trivial, fun _ => trivial⟩

/-- Settles O10: a push finds room and an installed sheet, and an install cuts or resets a stack with its buttons disarmed. -/
theorem stepKeepsMenuLaw : Obligations.StepKeepsMenuLaw := by
  unfold Obligations.StepKeepsMenuLaw
  exact fun s t law ran => step_keeps (P := State.menuInv) (fun _ _ => Turn.keeps_menuInv) law ran

end Sys2Proof.Machine

/-! The laws that every step keeps, continued: the trail and the strikes. -/

namespace Sys2Proof.Machine

/-! ### The trail -/

/-- Every entry of a trail is ended. -/
def allEnded (trail : List Entry) : Prop := ∀ e ∈ trail, e.ended.isSome = true

theorem Entry.endedBy_later {e : Entry} {n m : Nat} (h : e.endedBy n = true) (later : n ≤ m) : e.endedBy m = true := by
  unfold Entry.endedBy at h ⊢
  split
  next => rfl
  next t ended =>
    rw [ended] at h
    obtain ⟨begun, byThen⟩ := of_decide_eq_true h
    exact decide_eq_true ⟨begun, byThen.trans later⟩

/-- The frame clock runs on within its range. -/
theorem Beam.law_later {b : Beam} {n : Nat} (law : b.law) (later : b.clock ≤ n) (inRange : n ≤ Config.clockMax) :
    Beam.law { b with clock := n } := by
  obtain ⟨-, size, order, times, older, shut⟩ := law
  refine ⟨inRange, size, order, fun e member => ?_, older, shut⟩
  obtain ⟨begun, ended⟩ := times e member
  exact ⟨begun.trans later, Entry.endedBy_later ended later⟩

theorem Entry.endAt_begun (t : Nat) (e : Entry) : (e.endAt t).begun = e.begun := by
  unfold Entry.endAt
  split
  · rfl
  · rfl

theorem Entry.endAt_ended (t : Nat) (e : Entry) : (e.endAt t).ended.isSome = true := by
  unfold Entry.endAt
  split
  · rfl
  next ended => simpa [Option.ne_none_iff_isSome] using ended

theorem Entry.endAt_endedBy {t : Nat} {e : Entry} (begun : e.begun ≤ t) (ended : e.endedBy t = true) : (e.endAt t).endedBy t = true := by
  unfold Entry.endAt
  split
  · exact decide_eq_true ⟨begun, le_rfl⟩
  · exact ended

/-- The newest entry ended keeps the law, and leaves none unended. -/
theorem Beam.law_ended {b : Beam} (law : b.law) :
    Beam.law { b with trail := endNewest b.clock b.trail } ∧ allEnded (endNewest b.clock b.trail) := by
  obtain ⟨clock, size, order, times, older, shut⟩ := law
  rcases List.eq_nil_or_concat b.trail with empty | ⟨old, newest, e⟩
  · rw [empty]
    exact ⟨⟨clock, Nat.zero_le _, .nil, nofun, nofun, fun _ => nofun⟩, nofun⟩
  · rw [e, List.concat_eq_append] at size order times older
    rw [e, List.concat_eq_append, endNewest_concat]
    rw [List.dropLast_concat] at older
    have ended : allEnded (old ++ [newest.endAt b.clock]) := by
      intro x member
      rcases List.mem_append.mp member with earlier | last
      · exact older x earlier
      · rw [List.mem_singleton.mp last]
        exact newest.endAt_ended b.clock
    refine ⟨⟨clock, by simpa using size, ?_, fun x member => ?_, ?_, fun _ => ended⟩, ended⟩
    · rw [List.pairwise_append] at order ⊢
      obtain ⟨first, -, across⟩ := order
      refine ⟨first, List.pairwise_singleton _ _, fun x earlier y last => ?_⟩
      rw [List.mem_singleton.mp last, Entry.endAt_begun]
      exact across x earlier newest (List.mem_singleton_self _)
    · rcases List.mem_append.mp member with earlier | last
      · exact times x (List.mem_append_left _ earlier)
      · obtain ⟨begun, endedBy⟩ := times newest (List.mem_append_right _ (List.mem_singleton_self _))
        rw [List.mem_singleton.mp last]
        exact ⟨by rwa [Entry.endAt_begun], Entry.endAt_endedBy begun endedBy⟩
    · rw [List.dropLast_concat]
      exact older

/-- An entry begun now joins a trail that has none unended. -/
theorem Beam.law_append {b : Beam} (law : b.law) (ended : allEnded b.trail) (isOpen : b.isOpen = true) {e : Entry}
    (begun : e.begun = b.clock) (drawn : e.ended = none) : (b.append e).law := by
  have size := b.length_append_le e law.2.1
  obtain ⟨clock, -, order, times, -, -⟩ := law
  rw [Beam.append_eq] at size ⊢
  have kept : ∀ x ∈ (if 32 ≤ b.trail.length then b.trail.drop 1 else b.trail), x ∈ b.trail := by
    intro x member
    split at member
    · exact List.mem_of_mem_drop member
    · exact member
  have still : List.Pairwise (fun x y : Entry => x.begun ≤ y.begun) (if 32 ≤ b.trail.length then b.trail.drop 1 else b.trail) := by
    split
    · exact order.sublist (List.drop_sublist 1 _)
    · exact order
  refine ⟨clock, size, ?_, fun x member => ?_, ?_, fun shut => by simp [isOpen] at shut⟩
  · refine List.pairwise_append.mpr ⟨still, List.pairwise_singleton _ _, fun x earlier y last => ?_⟩
    rw [List.mem_singleton.mp last, begun]
    exact (times x (kept x earlier)).1
  · rcases List.mem_append.mp member with earlier | last
    · exact times x (kept x earlier)
    · rw [List.mem_singleton.mp last]
      exact ⟨begun.le, by simp [Entry.endedBy, drawn]⟩
  · rw [List.dropLast_concat]
    exact fun x member => ended x (kept x member)

theorem State.trailInv_iff (s : State) : s.trailInv ↔ s.beam.law ∧ ∀ c, (s.chan c).echo.law :=
  ⟨fun ⟨beam, a, b⟩ => ⟨beam, fun c => by
    cases c
    · exact a
    · exact b⟩, fun ⟨beam, chans⟩ => ⟨beam, chans .a, chans .b⟩⟩

theorem Beam.law_empty {b : Beam} (trail : b.trail = []) (clock : b.clock = 0) : b.law := by
  refine ⟨by rw [clock]; exact Nat.zero_le _, ?_⟩
  rw [trail]
  exact ⟨Nat.zero_le _, .nil, nofun, nofun, fun _ => nofun⟩

/-- A move keeps the range of the echoes' times. -/
theorem Move.keeps_echoes {s t : State} (h : Move s t) (echoes : ∀ c, (s.chan c).echo.law) : ∀ c, (t.chan c).echo.law := by
  have setChan : ∀ c y, y.echo.law → ∀ d, ((s.setChan c y).chan d).echo.law := by
    intro c y lawful d
    by_cases e : d = c
    · subst e
      rw [State.chan_setChan]
      exact lawful
    · rw [s.chan_setChan_ne y e]
      exact echoes d
  cases h with
  | act h =>
    cases h with
    | aside h => exact fun c => by rw [h.chan c]; exact echoes c
    | revised c y keeps _ _ => exact setChan c y (keeps.echo (echoes c))
    | picked c k _ _ h _ => exact fun d => by rw [h.chan d]; exact setChan c { s.chan c with collection := k } (echoes c) d
    | menued c m _ => exact echoes
    | loaded i x _ => exact echoes
  | moved c y k w keeps => exact setChan c y (keeps.echo (echoes c))

/-- One period of the tick clock leaves the beam as it is, or its frame clock one further (R3). -/
theorem State.beam_tick (s : State) :
    s.tick.beam = s.beam ∨ s.tick.beam = { s.beam with clock := min (s.beam.clock + 1) Config.clockMax } := by
  unfold State.tick
  dsimp only
  split
  · exact .inl rfl
  · unfold State.blocksTick
    dsimp only
    split
    · unfold Beam.tick
      split
      · exact .inr rfl
      · exact .inl rfl
    · exact .inl rfl

theorem Turn.keeps_trailInv {s t : State} (h : Turn s t) (law : s.trailInv) : t.trailInv := by
  rw [State.trailInv_iff] at law ⊢
  obtain ⟨beam, echoes⟩ := law
  have opened : ∀ u : State, (∀ c, (u.chan c).echo.law) → u.openFrame.beam.law ∧ ∀ c, (u.openFrame.chan c).echo.law := by
    intro u echoes
    refine ⟨Beam.law_empty rfl rfl, fun c => ?_⟩
    obtain ⟨e, opens, lawful⟩ := (u.chan c).opened_eq
    rw [u.chan_openFrame, opens]
    exact lawful (echoes c)
  have ended := Beam.law_ended beam
  cases h with
  | move h =>
    refine ⟨?_, h.keeps_echoes echoes⟩
    rw [(Moves.sameFrame (.single h)).beam]
    exact beam
  | echoMet c n due =>
    have inRange : n ≤ Config.clockMax := by
      have lawful := echoes c
      rwa [due] at lawful
    refine ⟨Beam.law_later beam (Nat.le_max_left _ _) (Nat.max_le.mpr ⟨beam.1, inRange⟩), fun d => ?_⟩
    by_cases e : d = c
    · subst e
      have gone := s.chan_setChan d { s.chan d with echo := .none }
      exact (congrArg (fun x : Channel => x.echo.law) gone).mpr trivial
    · exact (congrArg (fun x : Channel => x.echo.law) (s.chan_setChan_ne { s.chan c with echo := .none } e)).mpr (echoes d)
  | saturated => exact ⟨Beam.law_later beam beam.1 le_rfl, echoes⟩
  | ended =>
    refine ⟨ended.1, fun c => ?_⟩
    rw [State.chan_endVector]
    exact echoes c
  | began v isOpen =>
    refine ⟨?_, fun c => ?_⟩
    · rw [State.beam_beginVector]
      exact Beam.law_append (b := s.endVector.beam) ended.1 ended.2 isOpen rfl rfl
    · rw [State.chan_beginVector, State.chan_endVector]
      exact echoes c
  | closed =>
    obtain ⟨⟨clock, size, order, times, older, -⟩, all⟩ := ended
    refine ⟨⟨clock, size, order, times, older, fun _ => all⟩, fun c => ?_⟩
    obtain ⟨e, lapsed, lawful⟩ := (s.endVector.chan c).lapseDue_eq
    rw [s.chan_closeTrail, lapsed]
    refine lawful ?_
    rw [State.chan_endVector]
    exact echoes c
  | opened _ _ => exact opened s echoes
  | started _ => exact opened _ echoes
  | swapped n =>
    obtain ⟨m, f, o, swap⟩ := s.swap_eq (s.loader.installAll n)
    rw [State.swap] at swap
    rw [swap]
    exact ⟨beam, echoes⟩
  | reset h =>
    refine ⟨by rw [h.closed]; exact Beam.law_empty rfl rfl, fun c => ?_⟩
    rw [h.chan c]
    exact trivial
  | registered g _ _ => exact ⟨beam, echoes⟩
  | ticked =>
    refine ⟨?_, fun c => by rw [s.chan_tick c]; exact echoes c⟩
    rcases s.beam_tick with same | later
    · rw [same]
      exact beam
    · rw [later]
      exact Beam.law_later beam (Nat.le_min.mpr ⟨Nat.le_succ _, beam.1⟩) (Nat.min_le_right _ _)

/-- Settles O6: entries are appended at the frame clock, which never goes back in a frame, after the newest is ended. -/
theorem stepKeepsTrailLaw : Obligations.StepKeepsTrailLaw := by
  unfold Obligations.StepKeepsTrailLaw
  exact fun s t law ran => step_keeps (P := State.trailInv) (fun _ _ => Turn.keeps_trailInv) law ran

/-! ### The strikes -/

/-- No frame is OPEN in STOPPED and LOADING (R17). -/
def State.shutBefore (s : State) : Prop := s.regs.device = .stopped ∨ s.regs.device = .loading → s.beam.isOpen = false

/-- No strike pends in a CLOSED frame (R7). -/
def State.noneLate (s : State) : Prop := s.beam.isOpen = false → ∀ c, (s.chan c).pendingStrikes = []

theorem State.strikeInv_iff (s : State) : s.strikeInv ↔ (∀ c, (s.chan c).strikeLaw) ∧ s.noneLate ∧ s.shutBefore := by
  constructor
  · rintro ⟨a, b, late, shut⟩
    refine ⟨fun c => ?_, fun closed c => ?_, shut⟩
    · cases c
      · exact a
      · exact b
    · obtain ⟨noneA, noneB⟩ := late closed
      cases c
      · exact noneA
      · exact noneB
  · rintro ⟨laws, late, shut⟩
    exact ⟨laws .a, laws .b, fun closed => ⟨late closed .a, late closed .b⟩, shut⟩

/-- What the law of strikes says of one channel. -/
def State.strikesLawful (s : State) (x : Channel) : Prop := x.strikeLaw ∧ (s.beam.isOpen = false → x.pendingStrikes = [])

theorem Move.keeps_strikes {s t : State} (h : Move s t) (law : ∀ c, s.strikesLawful (s.chan c)) : ∀ c, s.strikesLawful (t.chan c) := by
  have setChan : ∀ c y, s.strikesLawful y → ∀ d, s.strikesLawful ((s.setChan c y).chan d) := by
    intro c y lawful d
    by_cases e : d = c
    · subst e
      rw [State.chan_setChan]
      exact lawful
    · rw [s.chan_setChan_ne y e]
      exact law d
  have keeps : ∀ c y, s.Keeps c y → s.strikesLawful y :=
    fun c y keeps => ⟨keeps.strikes (law c).1, fun closed => keeps.pending closed ((law c).2 closed)⟩
  cases h with
  | act h =>
    cases h with
    | aside h => exact fun c => by rw [h.chan c]; exact law c
    | revised c y kept _ _ => exact setChan c y (keeps c y kept)
    | picked c k _ _ h _ => exact fun d => by rw [h.chan d]; exact setChan c { s.chan c with collection := k } (law c) d
    | menued c m _ => exact law
    | loaded i x _ => exact law
  | moved c y k w kept => exact setChan c y (keeps c y kept)

/-- The end of a vector completes what pends: each strike is counted once still. -/
theorem State.strikeLaw_endVector {s : State} {c : Chan} (law : (s.chan c).strikeLaw) :
    (s.endVector.chan c).strikeLaw ∧ (s.endVector.chan c).pendingStrikes = [] := by
  obtain ⟨few, resolved⟩ := law
  rw [State.chan_endVector]
  refine ⟨⟨few, ?_⟩, rfl⟩
  simp only [List.length_nil, List.length_append, List.length_map, Nat.zero_add]
  omega

theorem Turn.keeps_strikeInv {s t : State} (h : Turn s t) (law : s.strikeInv) : t.strikeInv := by
  rw [State.strikeInv_iff] at law ⊢
  obtain ⟨strikes, late, shut⟩ := law
  have opened : ∀ u : State, u.regs.device = .running → (∀ c, (u.chan c).pendingStrikes = []) →
      (∀ c, (u.openFrame.chan c).strikeLaw) ∧ u.openFrame.noneLate ∧ u.openFrame.shutBefore := by
    intro u running none
    refine ⟨fun c => ?_, nofun, fun before => ?_⟩
    · obtain ⟨e, opens, -⟩ := (u.chan c).opened_eq
      rw [u.chan_openFrame, opens]
      exact ⟨Nat.zero_le _, by rw [none c]; exact Nat.le_refl 0⟩
    · rcases before with stopped | loading
      · exact absurd (running.symm.trans stopped) (by decide)
      · exact absurd (running.symm.trans loading) (by decide)
  have ended := fun c => State.strikeLaw_endVector (strikes c)
  cases h with
  | move h =>
    obtain ⟨beam, -, device⟩ := Moves.sameFrame (.single h)
    have kept := h.keeps_strikes fun c => ⟨strikes c, fun closed => late closed c⟩
    refine ⟨fun c => (kept c).1, fun closed c => (kept c).2 (by rwa [beam] at closed), fun before => ?_⟩
    rw [beam]
    rcases device with same | halted
    · rw [same] at before
      exact shut before
    · rw [halted] at before
      exact absurd before (by decide)
  | echoMet c n _ =>
    have chan := fun {α : Type} (f : Channel → α) => s.setChan_keeps (c := c) (y := { s.chan c with echo := .none }) f
    refine ⟨fun d => ?_, fun closed d => (chan Channel.pendingStrikes rfl d).trans (late closed d), shut⟩
    exact (chan Channel.strikeLaw rfl d).mpr (strikes d)
  | saturated => exact ⟨strikes, late, shut⟩
  | ended => exact ⟨fun c => (ended c).1, fun _ c => (ended c).2, shut⟩
  | began v isOpen =>
    refine ⟨fun c => ?_, fun _ c => ?_, ?_⟩
    · rw [State.chan_beginVector]
      exact (ended c).1
    · rw [State.chan_beginVector]
      exact (ended c).2
    · intro before
      exact absurd (isOpen.symm.trans (shut before)) (by decide)
  | closed =>
    have chan : ∀ c, ∃ e, s.closeTrail.chan c = { s.endVector.chan c with echo := e } := by
      intro c
      obtain ⟨e, lapsed, -⟩ := (s.endVector.chan c).lapseDue_eq
      exact ⟨e, by rw [s.chan_closeTrail, lapsed]⟩
    refine ⟨fun c => ?_, fun _ c => ?_, fun _ => rfl⟩
    · obtain ⟨e, chan⟩ := chan c
      rw [chan]
      exact (ended c).1
    · obtain ⟨e, chan⟩ := chan c
      rw [chan]
      exact (ended c).2
  | opened closed live => exact opened s live (late closed)
  | started loading => exact opened _ rfl (late (shut (.inr loading)))
  | swapped n =>
    obtain ⟨m, f, o, swap⟩ := s.swap_eq (s.loader.installAll n)
    rw [State.swap] at swap
    rw [swap]
    exact ⟨strikes, late, shut⟩
  | reset h =>
    refine ⟨fun c => ?_, fun _ c => ?_, fun _ => by rw [h.closed]⟩
    · rw [h.chan c]
      exact ⟨Nat.zero_le _, Nat.zero_le _⟩
    · rw [h.chan c]
      rfl
  | registered g _ device =>
    refine ⟨strikes, late, fun before => ?_⟩
    rcases device with same | ⟨stopped, -⟩
    · exact shut (same ▸ before)
    · exact shut (.inl stopped)
  | ticked =>
    have isOpen : s.tick.beam.isOpen = s.beam.isOpen := by
      rcases s.beam_tick with same | later
      · rw [same]
      · rw [later]
    have device : s.tick.regs = s.regs := by rw [s.tick_frame]
    refine ⟨fun c => by rw [s.chan_tick c]; exact strikes c, fun closed c => ?_, fun before => ?_⟩
    · rw [s.chan_tick c]
      exact late (isOpen ▸ closed) c
    · rw [isOpen]
      exact shut (device ▸ before)

/-- Settles O7: a strike is counted where it is taken, pends only while a frame is OPEN, and moves from the pending to the resolved. -/
theorem stepKeepsStrikeLaw : Obligations.StepKeepsStrikeLaw := by
  unfold Obligations.StepKeepsStrikeLaw
  exact fun s t law ran => step_keeps (P := State.strikeInv) (fun _ _ => Turn.keeps_strikeInv) law ran

end Sys2Proof.Machine

/-! The law of tracking and claims (R124, R127). An operation is followed with the work that the channels owe and ask: a channel
leaves its state only where it owes and asks nothing. -/

namespace Sys2Proof.Machine

/-! ### The law, channel by channel -/

/-- A channel that tracks, or has its tracking suspended. -/
def Channel.tracks (x : Channel) : Prop := x.mode = .tracking ∨ x.mode = .suspended

/-- A channel owes nothing and asks nothing, unless HALTED has frozen what it found. -/
def State.restful (s : State) (c : Chan) : Prop :=
  s.regs.device = .halted ∨ (s.work.owed.get c = none ∧ s.claims.asks.get c = none)

/-- A channel owes nothing, unless HALTED has frozen what it found. -/
def State.unowed (s : State) (c : Chan) : Prop := s.regs.device = .halted ∨ s.work.owed.get c = none

theorem State.claimInv_iff (s : State) :
    s.claimInv ↔ claimsLaw s.claims.entries ∧ (∀ c, s.trackLaw c) ∧ ∀ c, s.workLaw c := by
  constructor
  · rintro ⟨claims, ⟨trackA, trackB⟩, workA, workB⟩
    refine ⟨claims, fun c => ?_, fun c => ?_⟩
    · cases c
      · exact trackA
      · exact trackB
    · cases c
      · exact workA
      · exact workB
  · rintro ⟨claims, track, work⟩
    exact ⟨claims, ⟨track .a, track .b⟩, work .a, work .b⟩

/-- What `State.workLaw` says of a channel but for the state in which it asks. -/
def State.owedLaw (s : State) (c : Chan) : Prop :=
  s.regs.device = .halted ∨
    ((s.work.owed.get c ≠ none → s.regs.device = .running ∧ s.work.active = true) ∧
      (s.claims.asks.get c ≠ none → s.regs.device = .running ∧ s.work.owed.get c = none) ∧
      (s.work.owed.get c = some .miss → (s.chan c).mode = .pressed) ∧
      (s.work.owed.get c = some .tooFew → (s.chan c).mode = .calibrating) ∧
      (s.work.owed.get c = some .lost → (s.chan c).mode = .tracking))

/-- A channel asks in PRESSED alone. -/
def State.askLaw (s : State) (c : Chan) : Prop :=
  s.regs.device = .halted ∨ (s.claims.asks.get c ≠ none → (s.chan c).mode = .pressed)

/-- The law of tracking and claims while asks are answered, when a granted channel tracks before its ask is gone. -/
def State.trackInv (s : State) : Prop := claimsLaw s.claims.entries ∧ (∀ c, s.trackLaw c) ∧ ∀ c, s.owedLaw c

theorem State.workLaw_iff (s : State) (c : Chan) : s.workLaw c ↔ s.owedLaw c ∧ s.askLaw c := by
  constructor
  · rintro (halted | ⟨owed, asks, miss, tooFew, lost⟩)
    · exact ⟨.inl halted, .inl halted⟩
    · exact ⟨.inr ⟨owed, fun asking => ⟨(asks asking).1, (asks asking).2.2⟩, miss, tooFew, lost⟩, .inr fun asking => (asks asking).2.1⟩
  · rintro ⟨halted | ⟨owed, asks, miss, tooFew, lost⟩, halted' | pressed⟩
    · exact .inl halted
    · exact .inl halted
    · exact .inl halted'
    · exact .inr ⟨owed, fun asking => ⟨(asks asking).1, pressed asking, (asks asking).2⟩, miss, tooFew, lost⟩

theorem State.claimInv_iff_trackInv (s : State) : s.claimInv ↔ s.trackInv ∧ ∀ c, s.askLaw c := by
  rw [State.claimInv_iff]
  constructor
  · rintro ⟨claims, track, work⟩
    exact ⟨⟨claims, track, fun c => ((s.workLaw_iff c).mp (work c)).1⟩, fun c => ((s.workLaw_iff c).mp (work c)).2⟩
  · rintro ⟨⟨claims, track, owed⟩, asks⟩
    exact ⟨claims, track, fun c => (s.workLaw_iff c).mpr ⟨owed c, asks c⟩⟩

theorem State.restful.work {s : State} {c : Chan} (h : s.restful c) : s.workLaw c := by
  rcases h with halted | ⟨owed, asks⟩
  · exact .inl halted
  · exact .inr ⟨fun e => absurd owed e, fun e => absurd asks e, by simp [owed], by simp [owed], by simp [owed]⟩

theorem State.restful.owedLaw {s : State} {c : Chan} (h : s.restful c) : s.owedLaw c := ((s.workLaw_iff c).mp h.work).1

theorem State.restful.askLaw {s : State} {c : Chan} (h : s.restful c) : s.askLaw c := ((s.workLaw_iff c).mp h.work).2

theorem State.restful.unowed {s : State} {c : Chan} (h : s.restful c) : s.unowed c := h.imp_right And.left

/-- A channel outside PRESSED that owes nothing is at rest: only a channel in PRESSED asks. -/
theorem State.restful_of_mode {s : State} {c : Chan} (inv : s.claimInv) (unowed : s.unowed c) (mode : (s.chan c).mode ≠ .pressed) :
    s.restful c := by
  obtain ⟨-, -, work⟩ := s.claimInv_iff.mp inv
  rcases unowed with halted | owed
  · exact .inl halted
  rcases work c with halted | ⟨-, asks, -⟩
  · exact .inl halted
  · refine .inr ⟨owed, ?_⟩
    by_contra asking
    exact mode (asks asking).2.1

theorem State.trackLaw_iff (s : State) (c : Chan) :
    s.trackLaw c ↔ ((s.chan c).tracks → ∃ e, (s.chan c).tracked = some e ∧
        (penClaims s.claims.entries c = [⟨e.2, .pen c⟩] ∨ (s.regs.device = .halted ∧ penClaims s.claims.entries c = []))) ∧
      (¬(s.chan c).tracks → penClaims s.claims.entries c = []) := by
  rw [State.trackLaw]
  split
  next tracks => exact ⟨fun h => ⟨fun _ => h, fun idle => absurd tracks idle⟩, fun h => h.1 tracks⟩
  next idle => exact ⟨fun h => ⟨fun tracks => absurd tracks idle, fun _ => h⟩, fun h => h.2 idle⟩

/-- A channel that does not track holds no claim of its pen. -/
theorem State.penClaims_nil {s : State} {c : Chan} (track : s.trackLaw c) (idle : ¬(s.chan c).tracks) :
    penClaims s.claims.entries c = [] := ((s.trackLaw_iff c).mp track).2 idle

theorem State.trackLaw_idle {s : State} {c : Chan} (idle : ¬(s.chan c).tracks) (free : penClaims s.claims.entries c = []) :
    s.trackLaw c := (s.trackLaw_iff c).mpr ⟨fun tracks => absurd tracks idle, fun _ => free⟩

/-! ### What is followed from state to state -/

/-- `t` has the channels' states, the claims and the owed steps of `s`, and the device state unless it has entered HALTED. -/
structure Still (s t : State) : Prop where
  mode : ∀ c, (t.chan c).mode = (s.chan c).mode := by intro _; rfl
  tracked : ∀ c, (t.chan c).tracked = (s.chan c).tracked := by intro _; rfl
  entries : t.claims.entries = s.claims.entries := by rfl
  asks : t.claims.asks = s.claims.asks := by rfl
  owed : t.work.owed = s.work.owed := by rfl
  active : t.work.active = s.work.active := by rfl
  device : t.regs.device = s.regs.device ∨ t.regs.device = .halted := by exact .inl rfl

theorem Settled.still {s t : State} (h : Settled s t) : Still s t :=
  ⟨h.mode, h.tracked, h.entries, h.asks, h.owed, h.active, h.device⟩

theorem Still.trans {s t u : State} (h : Still s t) (k : Still t u) : Still s u where
  mode := fun c => (k.mode c).trans (h.mode c)
  tracked := fun c => (k.tracked c).trans (h.tracked c)
  entries := k.entries.trans h.entries
  asks := k.asks.trans h.asks
  owed := k.owed.trans h.owed
  active := k.active.trans h.active
  device := k.device.elim (fun e => e ▸ h.device) .inr

theorem Still.tracks {s t : State} (h : Still s t) (c : Chan) : (t.chan c).tracks ↔ (s.chan c).tracks := by
  rw [Channel.tracks, Channel.tracks, h.mode]

theorem Still.trackLaw {s t : State} (h : Still s t) {c : Chan} (law : s.trackLaw c) : t.trackLaw c := by
  rw [State.trackLaw_iff] at law ⊢
  obtain ⟨held, free⟩ := law
  rw [h.tracks, h.tracked, h.entries]
  refine ⟨fun tracks => ?_, free⟩
  obtain ⟨e, tracked, claim⟩ := held tracks
  refine ⟨e, tracked, claim.imp_right fun ⟨halted, gone⟩ => ⟨?_, gone⟩⟩
  exact h.device.elim (fun same => same.trans halted) id

theorem Still.owedLaw {s t : State} (h : Still s t) {c : Chan} (law : s.owedLaw c) : t.owedLaw c := by
  rcases h.device with same | halted
  · rw [State.owedLaw] at law ⊢
    rwa [h.mode, h.asks, h.owed, h.active, same]
  · exact .inl halted

theorem Still.askLaw {s t : State} (h : Still s t) {c : Chan} (law : s.askLaw c) : t.askLaw c := by
  rcases h.device with same | halted
  · rw [State.askLaw] at law ⊢
    rwa [h.mode, h.asks, same]
  · exact .inl halted

theorem Still.trackInv {s t : State} (h : Still s t) (inv : s.trackInv) : t.trackInv := by
  obtain ⟨claims, track, owed⟩ := inv
  exact ⟨by rwa [h.entries], fun c => h.trackLaw (track c), fun c => h.owedLaw (owed c)⟩

theorem Still.claimInv {s t : State} (h : Still s t) (inv : s.claimInv) : t.claimInv := by
  rw [State.claimInv_iff_trackInv] at inv ⊢
  exact ⟨h.trackInv inv.1, fun c => h.askLaw (inv.2 c)⟩

/-- From `s` to `t` the law `P` holds at the end, and of the channels that `q` names none has come to owe or ask; while another's
work may come to be owed, the frame end stays in progress. -/
structure Worked (P : State → Prop) (q : Chan → Prop) (s t : State) : Prop where
  inv : P t
  device : t.regs.device = s.regs.device ∨ t.regs.device = .halted := by exact .inl rfl
  owed : ∀ c, q c → s.work.owed.get c = none → t.work.owed.get c = none := by exact fun _ _ => id
  asks : ∀ c, q c → s.claims.asks.get c = none → t.claims.asks.get c = none := by exact fun _ _ => id
  active : (∃ c, ¬q c) → t.work.active = s.work.active := by exact fun _ => rfl

section

variable {P Q : State → Prop} {q : Chan → Prop} {s t u : State} {c : Chan} {f : State → State}

theorem Worked.trans (h : Worked P q s t) (k : Worked Q q t u) : Worked Q q s u where
  inv := k.inv
  device := k.device.elim (fun e => e ▸ h.device) .inr
  owed := fun c named none => k.owed c named (h.owed c named none)
  asks := fun c named none => k.asks c named (h.asks c named none)
  active := fun other => (k.active other).trans (h.active other)

theorem Worked.restful (h : Worked P q s t) (named : q c) (rest : s.restful c) : t.restful c := by
  rcases h.device with same | halted
  · rcases rest with halted | ⟨owed, asks⟩
    · exact .inl (same.trans halted)
    · exact .inr ⟨h.owed c named owed, h.asks c named asks⟩
  · exact .inl halted

theorem Worked.unowed (h : Worked P q s t) (named : q c) (rest : s.unowed c) : t.unowed c := by
  rcases h.device with same | halted
  · exact rest.imp same.trans (h.owed c named)
  · exact .inl halted

theorem Worked.live (h : Worked P q s t) (live : t.regs.device ≠ .halted) : t.regs.device = s.regs.device :=
  h.device.resolve_right live

/-- The rest of a step brings about another law; a halt before it must bring it about as well. -/
theorem Worked.andThenTo (h : Worked P q s t) (stopped : t.regs.device = .halted → Q t)
    (k : t.regs.device ≠ .halted → Worked Q q t (f t)) : Worked Q q s (t.andThen f) := by
  by_cases halted : t.regs.device = .halted
  · rw [State.andThen_halted f halted]
    exact { h with inv := stopped halted }
  · rw [State.andThen_live f halted]
    exact h.trans (k halted)

theorem Worked.imp (h : Worked P q s t) (k : P t → Q t) : Worked Q q s t := { h with inv := k h.inv }

theorem Worked.andThen (h : Worked P q s t) (k : t.regs.device ≠ .halted → Worked P q t (f t)) : Worked P q s (t.andThen f) := by
  by_cases halted : t.regs.device = .halted
  · rwa [State.andThen_halted f halted]
  · rw [State.andThen_live f halted]
    exact h.trans (k halted)

theorem Worked.ite {p : Prop} [Decidable p] (h : p → Worked P q s t) (k : ¬p → Worked P q s u) :
    Worked P q s (if p then t else u) := by
  split
  next holds => exact h holds
  next fails => exact k fails

theorem Still.worked (h : Still s t) (inv : P t) : Worked P q s t where
  inv := inv
  device := h.device
  owed := fun c _ none => by rwa [h.owed]
  asks := fun c _ none => by rwa [h.asks]
  active := fun _ => h.active

theorem Worked.refl (inv : P s) : Worked P q s s where
  inv := inv

/-- A chain of acts reaches nothing that the law of claims speaks of. -/
theorem Acts.worked (h : Acts s t) (inv : s.claimInv) : Worked State.claimInv q s t :=
  h.settled.still.worked (h.settled.still.claimInv inv)

/-- The work of both channels at one moment, in either order. -/
theorem Worked.eachChan {g : Chan → State → State} (inv : s.claimInv) (live : s.regs.device ≠ .halted)
    (h : ∀ c t, Worked State.claimInv q s t → t.regs.device ≠ .halted → Worked State.claimInv q t (g c t)) :
    Worked State.claimInv q s (s.eachChan g) := by
  have advanced : Worked State.claimInv q s { s with choices := s.choices + 1 } := (Acts.aside {}).worked inv
  have both : ∀ c d, Worked State.claimInv q s ((g c { s with choices := s.choices + 1 }).andThen (g d)) := by
    intro c d
    have first := advanced.trans (h c _ advanced live)
    exact first.andThen fun live => h d _ first live
  rw [State.eachChan]
  split
  · exact both .b .a
  · exact both .a .b

end

/-! ### A channel leaves its state -/

theorem penClaims_withoutPen (claims : List Claim) (c : Chan) : penClaims (withoutPen claims c) c = [] := by
  rw [penClaims, withoutPen, List.filter_filter, List.filter_eq_nil_iff]
  intro k _
  simp

theorem penClaims_withoutPen_ne (claims : List Claim) {c d : Chan} (ne : d ≠ c) : penClaims (withoutPen claims c) d = penClaims claims d := by
  rw [penClaims, withoutPen, List.filter_filter, penClaims]
  refine List.filter_congr fun k _ => ?_
  by_cases own : k.holder = .pen d
  · simp [own, ne]
  · simp [own]

theorem claimsLaw.sublist {k l : List Claim} (h : claimsLaw l) (sub : k.Sublist l) : claimsLaw k :=
  ⟨sub.length_le.trans h.1, h.2.sublist (sub.map _)⟩

/-- A channel whose claim, if it held one, is gone while it still stands in its state with its tracked element. -/
structure State.freed (s : State) (c : Chan) : Prop where
  claims : claimsLaw s.claims.entries
  others : ∀ d, d ≠ c → s.trackLaw d
  free : penClaims s.claims.entries c = []
  tracked : (s.chan c).tracks → ∃ e, (s.chan c).tracked = some e
  owed : ∀ d, s.owedLaw d

theorem State.freed_of_idle {s : State} {c : Chan} (inv : s.trackInv) (idle : ¬(s.chan c).tracks) : s.freed c := by
  obtain ⟨claims, track, owed⟩ := inv
  exact ⟨claims, fun d _ => track d, State.penClaims_nil (track c) idle, fun tracks => absurd tracks idle, owed⟩

theorem Still.freed {s t : State} (h : Still s t) {c : Chan} (law : s.freed c) : t.freed c where
  claims := by rw [h.entries]; exact law.claims
  others := fun d ne => h.trackLaw (law.others d ne)
  free := by rw [h.entries]; exact law.free
  tracked := by rw [h.tracks, h.tracked]; exact law.tracked
  owed := fun d => h.owedLaw (law.owed d)

/-- HALTED freezes a channel so (log entry 21). -/
theorem State.freed.halted {s : State} {c : Chan} (law : s.freed c) (halted : s.regs.device = .halted) : s.claimInv := by
  refine s.claimInv_iff_trackInv.mpr ⟨⟨law.claims, fun d => ?_, law.owed⟩, fun _ => .inl halted⟩
  by_cases e : d = c
  · subst e
    rw [State.trackLaw_iff]
    refine ⟨fun tracks => ?_, fun _ => law.free⟩
    obtain ⟨k, tracked⟩ := law.tracked tracks
    exact ⟨k, tracked, .inr ⟨halted, law.free⟩⟩
  · exact law.others d e

/-- A channel at rest takes a new value, and the claims of its pen with it. -/
theorem State.trackInv_moved {s : State} {c : Chan} {y : Channel} {k : List Claim} (others : ∀ d, d ≠ c → s.trackLaw d)
    (owed : ∀ d, s.owedLaw d) (rest : ((s.setChan c y).onClaims fun _ => k).owedLaw c) (claims : claimsLaw k)
    (pens : ∀ d, d ≠ c → penClaims k d = penClaims s.claims.entries d)
    (track : ((s.setChan c y).onClaims fun _ => k).trackLaw c) : ((s.setChan c y).onClaims fun _ => k).trackInv := by
  refine ⟨claims, fun d => ?_, fun d => ?_⟩
  · by_cases e : d = c
    · exact e ▸ track
    · have chan : ((s.setChan c y).onClaims fun _ => k).chan d = s.chan d := s.chan_setChan_ne y e
      have pen : penClaims ((s.setChan c y).onClaims fun _ => k).claims.entries d = penClaims s.claims.entries d := pens d e
      rw [State.trackLaw_iff, chan, pen]
      exact (s.trackLaw_iff d).mp (others d e)
  · by_cases e : d = c
    · exact e ▸ rest
    · have law := owed d
      have chan : ((s.setChan c y).onClaims fun _ => k).chan d = s.chan d := s.chan_setChan_ne y e
      rw [State.owedLaw] at law ⊢
      rw [chan]
      exact law

theorem State.askLaw_setChan {s : State} {c : Chan} {y : Channel} (asks : ∀ d, s.askLaw d) (rest : s.restful c) (d : Chan) :
    (s.setChan c y).askLaw d := by
  by_cases e : d = c
  · subst e
    exact State.restful.askLaw (s := s.setChan d y) rest
  · have law := asks d
    rw [State.askLaw] at law ⊢
    rw [s.chan_setChan_ne y e]
    exact law

/-- A channel goes to a state in which it tracks nothing. -/
theorem State.freed.goes {s : State} {c : Chan} {y : Channel} (law : s.freed c) (rest : s.restful c) (idle : ¬y.tracks) :
    (s.setChan c y).trackInv := by
  refine State.trackInv_moved (k := s.claims.entries) law.others law.owed
    (State.restful.owedLaw (s := (s.setChan c y).onClaims fun _ => s.claims.entries) rest) law.claims (fun _ _ => rfl)
    (State.trackLaw_idle ?_ law.free)
  have chan : ((s.setChan c y).onClaims fun _ => s.claims.entries).chan c = y := s.chan_setChan c y
  rwa [chan]

/-- A channel that tracks nothing goes to a state in which it tracks nothing. -/
theorem State.claimInv_goes {s : State} {c : Chan} {y : Channel} (inv : s.claimInv) (rest : s.restful c)
    (before : ¬(s.chan c).tracks) (after : ¬y.tracks) : (s.setChan c y).claimInv := by
  rw [State.claimInv_iff_trackInv] at inv ⊢
  exact ⟨(State.freed_of_idle inv.1 before).goes rest after, State.askLaw_setChan inv.2 rest⟩

/-- What holds between the end of a channel's tracking and the change of its state. -/
def State.freeing (c : Chan) (s : State) : Prop :=
  (s.regs.device = .halted → s.claimInv) ∧ (s.regs.device ≠ .halted → s.freed c ∧ ∀ d, s.askLaw d)

theorem State.freeing_of_idle {s : State} {c : Chan} (inv : s.claimInv) (idle : ¬(s.chan c).tracks) : s.freeing c := by
  obtain ⟨track, asks⟩ := s.claimInv_iff_trackInv.mp inv
  exact ⟨fun _ => inv, fun _ => ⟨State.freed_of_idle track idle, asks⟩⟩

theorem Still.freeing {s t : State} (h : Still s t) {c : Chan} (law : s.freed c ∧ ∀ d, s.askLaw d) : t.freeing c := by
  have freed := h.freed law.1
  exact ⟨freed.halted, fun _ => ⟨freed, fun d => h.askLaw (law.2 d)⟩⟩

end Sys2Proof.Machine

/-! The law of tracking and claims through the operations of a step. -/

namespace Sys2Proof.Machine

section

variable {q : Chan → Prop} {s : State} {c : Chan}

theorem not_tracks_of_mode {x : Channel} {m : Mode} (mode : x.mode = m) (off : m ≠ .tracking) (on : m ≠ .suspended) : ¬x.tracks := by
  rw [Channel.tracks, mode]
  exact not_or.mpr ⟨off, on⟩

/-- A channel update that leaves its state and tracked element as they are. -/
theorem Still.onChan (s : State) (c : Chan) {f : Channel → Channel} (mode : (f (s.chan c)).mode = (s.chan c).mode := by rfl)
    (tracked : (f (s.chan c)).tracked = (s.chan c).tracked := by rfl) : Still s (s.onChan c f) :=
  { mode := s.setChan_keeps Channel.mode mode, tracked := s.setChan_keeps Channel.tracked tracked }

theorem Still.workedInv {t : State} (h : Still s t) (inv : s.claimInv) : Worked State.claimInv q s t := h.worked (h.claimInv inv)

/-- The law, with a channel that tracks nothing. -/
def State.idleInv (c : Chan) (s : State) : Prop := s.claimInv ∧ ¬(s.chan c).tracks

theorem Still.workedIdle {t : State} (h : Still s t) (inv : s.idleInv c) : Worked (State.idleInv c) q s t :=
  h.worked ⟨h.claimInv inv.1, by rw [h.tracks]; exact inv.2⟩

/-- A channel at rest that tracks nothing goes to a state in which it tracks nothing. -/
theorem Worked.goes {f : Channel → Channel} (inv : s.idleInv c) (rest : s.restful c) (after : ¬(f (s.chan c)).tracks) :
    Worked (State.idleInv c) q s (s.onChan c f) where
  inv := ⟨State.claimInv_goes inv.1 rest inv.2 after, by rwa [s.chan_onChan]⟩

/-! ### The ends of a channel's state -/

theorem Still.restful {t : State} (h : Still s t) (rest : s.restful c) : t.restful c :=
  (h.worked (P := fun _ => True) (q := fun _ => True) trivial).restful trivial rest

/-- A record, and then a channel at rest leaves its state. -/
theorem Worked.recordGoes {t : State} {f : Channel → Channel} (h : Acts s t) (inv : s.idleInv c) (rest : s.restful c)
    (after : ∀ x, ¬(f x).tracks) : Worked (State.idleInv c) q s (t.andThen fun u => u.onChan c f) := by
  have still := h.settled.still
  have recorded : Worked (State.idleInv c) q s t := still.workedIdle inv
  exact recorded.andThen fun _ => Worked.goes recorded.inv (still.restful rest) (after _)

theorem Worked.missAndGo (r : MissReason) (e : Option (Nat × Nat)) (echo : Bool) {m : Mode} (inv : s.idleInv c) (rest : s.restful c)
    (off : m ≠ .tracking) (on : m ≠ .suspended) : Worked (State.idleInv c) q s (s.missAndGo c r e echo m) :=
  Worked.recordGoes (Acts.record s c _ _) inv rest fun _ => not_tracks_of_mode rfl off on

theorem Worked.endCalibration (o : CalOutcome) {m : Mode} (inv : s.idleInv c) (rest : s.restful c)
    (off : m ≠ .tracking) (on : m ≠ .suspended) : Worked (State.idleInv c) q s (s.endCalibration c o m) :=
  Worked.recordGoes (Acts.record s c _ _) inv rest fun _ => not_tracks_of_mode rfl off on

theorem Worked.finishCalibration (inv : s.idleInv c) (rest : s.restful c) :
    Worked (State.idleInv c) q s (s.finishCalibration c) := by
  unfold State.finishCalibration
  dsimp only
  refine Worked.ite (fun _ => ?_) fun _ => Worked.endCalibration _ inv rest nofun nofun
  have set : ∀ f : Channel → Channel, Still s (s.onChan c f) → Worked (State.idleInv c) q s ((s.onChan c f).endCalibration c .set .watch) :=
    fun f still => (still.workedIdle inv).trans
      (Worked.endCalibration _ (still.workedIdle (q := q) inv).inv (still.restful rest) nofun nofun)
  exact set _ (Still.onChan s c)

theorem Worked.closeTracking (r : EndReason) (inv : s.claimInv) :
    Worked (State.freeing c) q s (s.closeTracking c r) := by
  have closed : ∀ t, Still s t → t.regs.device ≠ .halted → Worked (State.freeing c) q t (t.onClaims fun k => withoutPen k c) := by
    intro t still live
    obtain ⟨⟨claims, track, owed⟩, asks⟩ := (State.claimInv_iff_trackInv t).mp (still.claimInv inv)
    refine { inv := ⟨fun halted => absurd halted live, fun _ => ⟨⟨claims.sublist List.filter_sublist, fun d ne => ?_,
      penClaims_withoutPen _ c, fun tracks => ?_, owed⟩, asks⟩⟩ }
    · have law := (State.trackLaw_iff t d).mp (track d)
      rw [State.trackLaw_iff]
      change (_ → ∃ e, _ ∧ (penClaims (withoutPen t.claims.entries c) d = _ ∨ _ ∧ penClaims (withoutPen t.claims.entries c) d = [])) ∧
        (_ → penClaims (withoutPen t.claims.entries c) d = [])
      rw [penClaims_withoutPen_ne _ ne]
      exact law
    · obtain ⟨e, tracked, -⟩ := ((State.trackLaw_iff t c).mp (track c)).1 tracks
      exact ⟨e, tracked⟩
  unfold State.closeTracking
  have still := fun n b => (Acts.record s c n b).settled.still
  exact Worked.andThenTo ((still _ _).workedInv inv) (fun halted => ⟨fun _ => (still _ _).claimInv inv, fun live => absurd halted live⟩)
    fun live => closed _ (still _ _) live

/-- A channel freed of its claim leaves its state. -/
theorem Worked.leaves {f : Channel → Channel} (freed : s.freed c ∧ ∀ d, s.askLaw d) (rest : s.restful c)
    (after : ¬(f (s.chan c)).tracks) : Worked (State.idleInv c) q s (s.onChan c f) where
  inv := ⟨(State.claimInv_iff_trackInv _).mpr ⟨freed.1.goes rest after, State.askLaw_setChan freed.2 rest⟩, by rwa [s.chan_onChan]⟩

theorem Worked.endTracking (r : EndReason) (inv : s.claimInv) (rest : s.restful c) :
    Worked State.claimInv q s (s.endTracking c r) := by
  have closed : Worked (State.freeing c) q s (s.closeTracking c r) := Worked.closeTracking r inv
  have still : (s.closeTracking c r).restful c :=
    (Worked.closeTracking (q := fun _ => True) r inv).restful trivial rest
  refine closed.andThenTo closed.inv.1 fun live => ?_
  exact (Worked.leaves (closed.inv.2 live) still (not_tracks_of_mode (m := .watch) rfl nofun nofun)).imp And.left

/-! ### The frame-end work of a channel -/

/-- A channel at rest comes to owe what belongs to its state. -/
theorem State.claimInv_owe {o : Owed} (inv : s.claimInv) (rest : s.restful c) (running : s.regs.device = .running)
    (active : s.work.active = true) (miss : o = .miss → (s.chan c).mode = .pressed)
    (tooFew : o = .tooFew → (s.chan c).mode = .calibrating) (lost : o = .lost → (s.chan c).mode = .tracking) :
    (s.owe c (some o)).claimInv := by
  obtain ⟨claims, track, work⟩ := s.claimInv_iff.mp inv
  have live : s.regs.device ≠ .halted := by simp [running]
  obtain ⟨-, unasked⟩ := rest.resolve_left live
  refine (State.claimInv_iff _).mpr ⟨claims, track, fun d => ?_⟩
  by_cases e : d = c
  · subst e
    refine .inr ⟨fun _ => ⟨running, active⟩, fun asks => absurd unasked asks, ?_⟩
    rw [State.owe]
    dsimp only
    rw [Pair.get_set_same]
    exact ⟨fun own => miss (Option.some.inj own), fun own => tooFew (Option.some.inj own), fun own => lost (Option.some.inj own)⟩
  · have law := work d
    rw [State.workLaw] at law ⊢
    rw [State.owe]
    dsimp only
    rw [Pair.get_set_ne _ _ e]
    exact law

/-- A channel at rest in a frame end in progress. -/
structure State.working (c : Chan) (s : State) : Prop where
  inv : s.claimInv
  rest : s.restful c
  running : s.regs.device = .running
  active : s.work.active = true

theorem Still.working {t : State} (h : Still s t) (work : s.working c) (live : t.regs.device ≠ .halted) : t.working c where
  inv := h.claimInv work.inv
  rest := h.restful work.rest
  running := (h.device.resolve_right live).trans work.running
  active := h.active.trans work.active

theorem Worked.owe {o : Owed} (work : s.working c) (miss : o = .miss → (s.chan c).mode = .pressed)
    (tooFew : o = .tooFew → (s.chan c).mode = .calibrating) (lost : o = .lost → (s.chan c).mode = .tracking) :
    Worked State.claimInv (· ≠ c) s (s.owe c (some o)) where
  inv := State.claimInv_owe work.inv work.rest work.running work.active miss tooFew lost
  owed := fun d ne none => by
    rw [State.owe]
    dsimp only
    rwa [Pair.get_set_ne _ _ ne]

/-- A channel at rest in PRESSED asks. -/
theorem Worked.ask {k : Ask} (work : s.working c) (mode : (s.chan c).mode = .pressed) :
    Worked State.claimInv (· ≠ c) s (s.setAsk c (some k)) where
  inv := by
    obtain ⟨claims, track, law⟩ := s.claimInv_iff.mp work.inv
    obtain ⟨unowed, -⟩ := work.rest.resolve_left (by simp [work.running])
    refine (State.claimInv_iff _).mpr ⟨claims, track, fun d => ?_⟩
    by_cases e : d = c
    · subst e
      exact .inr ⟨fun owes => absurd unowed owes, fun _ => ⟨work.running, mode, unowed⟩, by simp [unowed], by simp [unowed],
        by simp [unowed]⟩
    · have law := law d
      rw [State.workLaw] at law ⊢
      rw [State.setAsk]
      dsimp only
      rw [Pair.get_set_ne _ _ e]
      exact law
  asks := fun d ne none => by
    rw [State.setAsk]
    dsimp only
    rwa [Pair.get_set_ne _ _ ne]

theorem Worked.calibrationFrame (work : s.working c) (mode : (s.chan c).mode = .calibrating) :
    Worked State.claimInv (· ≠ c) s (s.calibrationFrame c) := by
  have spent : ∀ t, Still s t → t.regs.device = .running → Worked State.claimInv (· ≠ c) s
      (if Config.measuresMax ≤ (t.chan c).measures.length then t.finishCalibration c
      else if (t.chan c).budget = 0 then t.owe c (some .tooFew) else t) := by
    intro t still running
    have live : t.regs.device ≠ .halted := by simp [running]
    have now := (still.mode c).trans mode
    have working := still.working work live
    refine (still.workedInv work.inv).trans (Worked.ite (fun _ => ?_) fun _ => Worked.ite (fun _ => ?_) fun _ => .refl working.inv)
    · exact (Worked.finishCalibration ⟨working.inv, not_tracks_of_mode now nofun nofun⟩ working.rest).imp And.left
    · exact Worked.owe working nofun (fun _ => now) nofun
  exact spent _ (Still.onChan s c) work.running

theorem Worked.pickElement (k : Pick) (work : s.working c) (mode : (s.chan c).mode = .pressed) :
    Worked State.claimInv (· ≠ c) s (s.pickElement c k) := by
  have disarmed := (Acts.disarm s c .pick).settled.still
  have picked : ∀ t, t.working c → (t.chan c).mode = .pressed → Worked State.claimInv (· ≠ c) t
      ((t.recordPick c k {} false).andThen fun u => u.onChan c fun x => x.leavePressed.goto .watch) := by
    intro t working now
    have live : t.regs.device ≠ .halted := by simp [working.running]
    exact (Worked.recordGoes (Acts.recordPick c k _ _ live) ⟨working.inv, not_tracks_of_mode now nofun nofun⟩ working.rest
      fun _ => not_tracks_of_mode (m := .watch) rfl nofun nofun).imp And.left
  refine (disarmed.workedInv work.inv).andThen fun live => ?_
  have working := disarmed.working work live
  have now := (disarmed.mode c).trans mode
  split
  · exact Worked.ite (fun _ => Worked.ask working now) fun _ => picked _ working now
  · exact picked _ working now

theorem Worked.pressedFrame (work : s.working c) (mode : (s.chan c).mode = .pressed) :
    Worked State.claimInv (· ≠ c) s (s.pressedFrame c) := by
  have counted := Still.onChan s c (f := Channel.countWindow)
  have updated := (Acts.updateQual (s.onChan c Channel.countWindow) c).settled.still
  have live : ((s.onChan c Channel.countWindow).updateQual c).regs.device ≠ .halted := by
    have running : ((s.onChan c Channel.countWindow).updateQual c).regs.device = .running := work.running
    simp [running]
  have working := updated.working (counted.working work (by simp [work.running])) live
  have now := (updated.mode c).trans ((counted.mode c).trans mode)
  have reached := (counted.workedInv (q := (· ≠ c)) work.inv).trans (updated.workedInv (counted.claimInv work.inv))
  unfold State.pressedFrame
  dsimp only
  generalize (s.onChan c Channel.countWindow).updateQual c = t at working now reached ⊢
  split
  · have fallen : ∀ u, Still t u → u.regs.device = .running → Worked State.claimInv (· ≠ c) t
        (if (u.chan c).windowCount = 0 then u.owe c (some .miss) else u) := by
      intro u still running
      have kept := still.working working (by simp [running])
      refine (still.workedInv working.inv).trans (Worked.ite (fun _ => ?_) fun _ => .refl kept.inv)
      exact Worked.owe kept (fun _ => (still.mode c).trans now) nofun nofun
    exact reached.trans (fallen _ (Still.onChan t c) working.running)
  · split
    · exact reached.trans ((Worked.recordGoes (Acts.pickButton t c _) ⟨working.inv, not_tracks_of_mode now nofun nofun⟩ working.rest
        fun _ => not_tracks_of_mode (m := .watch) rfl nofun nofun).imp And.left)
    · exact reached.trans (Worked.pickElement _ working now)

theorem Worked.trackFrame (work : s.working c) (mode : (s.chan c).mode = .tracking) :
    Worked State.claimInv (· ≠ c) s (s.trackFrame c) := by
  have lasted : Still s (s.onChan c fun x => { x with duration := min (x.duration + 1) Config.countMax }) := Still.onChan s c
  have moved := (Acts.moveCentre (s.onChan c fun x => { x with duration := min (x.duration + 1) Config.countMax }) c).settled.still
  have decided : ∀ (u t : State) (held lost : Prop) [Decidable held] [Decidable lost], Still u t → u.working c →
      (u.chan c).mode = .tracking → t.regs.device ≠ .halted →
      Worked State.claimInv (· ≠ c) u (if held then t.endTracking c .dropped else if lost then t.owe c (some .lost) else t) := by
    intro u t held lost _ _ still working mode live
    have kept := still.working working live
    refine (still.workedInv working.inv).trans (Worked.ite (fun _ => Worked.endTracking _ kept.inv kept.rest) fun _ =>
      Worked.ite (fun _ => ?_) fun _ => .refl kept.inv)
    exact Worked.owe kept nofun nofun fun _ => (still.mode c).trans mode
  have live : (s.onChan c fun x => { x with duration := min (x.duration + 1) Config.countMax }).regs.device ≠ .halted := by
    simp [work.running]
  have working := lasted.working work live
  unfold State.trackFrame
  refine ((lasted.workedInv work.inv).trans (moved.workedInv working.inv)).andThen fun live => ?_
  exact decided _ _ _ _ (Still.onChan _ c) (moved.working working live) ((moved.mode c).trans ((lasted.mode c).trans mode)) live

theorem Worked.glareFrame (work : s.working c) : Worked State.claimInv (· ≠ c) s (s.glareFrame c) := by
  have counted : ∀ t, Still s t → t.regs.device = .running → Worked State.claimInv (· ≠ c) s
      (if (t.chan c).reminderPhase = 0 then t.owe c (some .reminder) else t) := by
    intro t still running
    have working := still.working work (by simp [running])
    exact (still.workedInv work.inv).trans (Worked.ite (fun _ => Worked.owe working nofun nofun nofun) fun _ => .refl working.inv)
  exact counted _ (Still.onChan s c) work.running

theorem Worked.modeFrame (work : s.working c) : Worked State.claimInv (· ≠ c) s (s.modeFrame c) := by
  unfold State.modeFrame
  split
  next => exact .refl work.inv
  next => exact ((Acts.updateQual s c).trans (Acts.sightPick _ c)).worked work.inv
  next mode => exact Worked.pressedFrame work mode
  next mode => exact Worked.calibrationFrame work mode
  next mode => exact Worked.trackFrame work mode
  next => exact (Still.onChan s c).workedInv work.inv
  next => exact Worked.glareFrame work

theorem Worked.chanFrame (work : s.working c) : Worked State.claimInv (· ≠ c) s (s.chanFrame c) := by
  have moded := Worked.modeFrame work
  have lowered : Worked State.claimInv (· ≠ c) s ((s.modeFrame c).andThen fun t => t.lowerCountdown c (s.menu c).armed) :=
    moded.andThen fun _ => (Acts.lowerCountdown _ c _).worked moded.inv
  exact lowered.andThen fun _ => (Acts.choose _ _ c).worked lowered.inv

end

end Sys2Proof.Machine

/-! The law of tracking and claims through the frame end, the asks, glare, the console switches, the installs and the requests. -/

namespace Sys2Proof.Machine

/-- Every channel, as `Worked` names channels. -/
abbrev everyChan : Chan → Prop := fun _ => True

section

variable {s : State} {c : Chan}

/-! ### The frame end -/

theorem State.frameDone_rest {s : State} (done : s.frameDone = true) (c : Chan) :
    s.work.owed.get c = none ∧ s.claims.asks.get c = none := by
  simp only [State.frameDone, Bool.and_eq_true, Option.isNone_iff_eq_none] at done
  obtain ⟨⟨⟨⟨⟨⟨⟨-, owedA⟩, owedB⟩, -⟩, -⟩, -⟩, asksA⟩, asksB⟩ := done
  cases c
  · exact ⟨owedA, asksA⟩
  · exact ⟨owedB, asksB⟩

theorem Worked.finishFrame (inv : s.claimInv) : Worked State.claimInv everyChan s s.finishFrame := by
  unfold State.finishFrame
  split
  next done =>
    have still := (Acts.writeStatus s).settled.still
    refine (still.workedInv inv).andThen fun _ => ?_
    have rest : ∀ d, s.writeStatus.2.claims.asks.get d = none := fun d => by rw [still.asks]; exact (State.frameDone_rest done d).2
    have none : ∀ d, FrameWork.none.owed.get d = Option.none := fun d => by cases d <;> rfl
    obtain ⟨claims, track, -⟩ := (State.claimInv_iff _).mp (still.claimInv inv)
    refine { inv := (State.claimInv_iff _).mpr ⟨claims, track, fun d => State.restful.work (.inr ⟨none d, rest d⟩)⟩, owed := ?_, active := ?_ }
    · exact fun d _ _ => none d
    · rintro ⟨d, other⟩
      exact absurd trivial other
  next => exact .refl inv

theorem State.closeTrail_working (running : s.regs.device = .running) (inv : s.claimInv) (c : Chan) : s.closeTrail.working c := by
  obtain ⟨claims, track, -⟩ := s.claimInv_iff.mp inv
  have rest : ∀ d, s.closeTrail.restful d := fun d => .inr (by cases d <;> exact ⟨rfl, rfl⟩)
  have chan : ∀ d, (s.closeTrail.chan d).mode = (s.chan d).mode ∧ (s.closeTrail.chan d).tracked = (s.chan d).tracked := by
    intro d
    obtain ⟨e, lapsed, -⟩ := (s.endVector.chan d).lapseDue_eq
    rw [s.chan_closeTrail, lapsed, s.chan_endVector]
    exact ⟨rfl, rfl⟩
  refine ⟨(State.claimInv_iff _).mpr ⟨claims, fun d => ?_, fun d => (rest d).work⟩, rest c, running, rfl⟩
  have law := (s.trackLaw_iff d).mp (track d)
  rw [State.trackLaw_iff, Channel.tracks, (chan d).1, (chan d).2]
  exact law

theorem State.closeFrame_claimInv (running : s.regs.device = .running) (inv : s.claimInv) : s.closeFrame.claimInv := by
  have both : ∀ t, Still s.closeTrail t → t.regs.device = .running → ∀ c d, d ≠ c →
      ((t.chanFrame c).andThen (State.chanFrame d)).claimInv := by
    intro t still running' c d ne
    have working := fun c => still.working (State.closeTrail_working running inv c) (by simp [running'])
    have first := Worked.chanFrame (working c)
    by_cases halted : (t.chanFrame c).regs.device = .halted
    · rw [State.andThen_halted _ halted]
      exact first.inv
    · rw [State.andThen_live _ halted]
      exact (Worked.chanFrame (s := t.chanFrame c) (c := d) ⟨first.inv, first.restful ne (working d).rest,
        (first.live halted).trans running', (first.active ⟨c, fun h => h rfl⟩).trans (working c).active⟩).inv
  have blinked := (Acts.countBlink s.closeTrail).settled.still
  have device : s.closeTrail.countBlink.regs.device = .running := by
    unfold State.countBlink
    split
    · exact running
    · exact running
  have worked : (s.closeTrail.countBlink.eachChan State.chanFrame).claimInv := by
    rw [State.eachChan]
    split
    · exact both { s.closeTrail.countBlink with choices := s.closeTrail.countBlink.choices + 1 }
        ⟨blinked.mode, blinked.tracked, blinked.entries, blinked.asks, blinked.owed, blinked.active, blinked.device⟩
        device .b .a nofun
    · exact both { s.closeTrail.countBlink with choices := s.closeTrail.countBlink.choices + 1 }
        ⟨blinked.mode, blinked.tracked, blinked.entries, blinked.asks, blinked.owed, blinked.active, blinked.device⟩
        device .a .b nofun
  exact ((Worked.refl (q := everyChan) worked).andThen fun _ => Worked.finishFrame worked).inv

/-! ### The owed steps -/

/-- What a channel owes is taken up: it is at rest. -/
theorem State.owe_none {o : Owed} (inv : s.claimInv) (live : s.regs.device ≠ .halted) (owes : s.work.owed.get c = some o) :
    (s.owe c none).claimInv ∧ (s.owe c none).restful c := by
  obtain ⟨claims, track, work⟩ := s.claimInv_iff.mp inv
  obtain ⟨-, asks, -⟩ := (work c).resolve_left live
  have rest : (s.owe c none).restful c := by
    refine .inr ⟨Pair.get_set_same _ _ _, ?_⟩
    by_contra asking
    exact absurd ((asks asking).2.2.symm.trans owes) nofun
  refine ⟨(State.claimInv_iff _).mpr ⟨claims, track, fun d => ?_⟩, rest⟩
  by_cases e : d = c
  · exact e ▸ rest.work
  · have same : (s.owe c none).work.owed.get d = s.work.owed.get d := Pair.get_set_ne _ _ e
    have law := work d
    rw [State.workLaw] at law ⊢
    rw [same]
    exact law

/-- The step that a channel owes, from the moment it is taken up. -/
theorem Worked.payOwed {o : Owed} (inv : s.claimInv) (live : s.regs.device ≠ .halted) (owes : s.work.owed.get c = some o) :
    Worked State.claimInv everyChan (s.owe c none) (s.doOwed c) := by
  obtain ⟨kept, rest⟩ := State.owe_none inv live owes
  obtain ⟨-, -, work⟩ := s.claimInv_iff.mp inv
  obtain ⟨-, -, miss, tooFew, -⟩ := (work c).resolve_left live
  have chosen : ∀ t, Worked State.claimInv everyChan (s.owe c none) t →
      Worked State.claimInv everyChan (s.owe c none) (t.andThen fun u => u.choose u.closeClaims c) :=
    fun t h => h.andThen fun _ => (Acts.choose _ _ c).worked h.inv
  have idle : ∀ m, (s.chan c).mode = m → m ≠ .tracking → m ≠ .suspended → (s.owe c none).idleInv c :=
    fun m mode off on => ⟨kept, not_tracks_of_mode mode off on⟩
  simp only [State.doOwed, owes]
  cases o with
  | reminder =>
    have raised : ∀ t, Still (s.owe c none) t → ∀ n b, Worked State.claimInv everyChan (s.owe c none) (t.record c n b) :=
      fun t still n b => (still.workedInv kept).trans ((Acts.record t c n b).worked (still.claimInv kept))
    exact chosen _ (raised _ (Still.onChan _ c) _ _)
  | tooFew =>
    exact chosen _ ((Worked.endCalibration (m := .watch) _ (idle _ (tooFew owes) nofun nofun) rest nofun nofun).imp And.left)
  | miss => exact chosen _ ((Worked.missAndGo (m := .watch) _ _ _ (idle _ (miss owes) nofun nofun) rest nofun nofun).imp And.left)
  | lost => exact chosen _ (Worked.endTracking _ kept rest)

/-- The law, with a channel that owes nothing. -/
def State.paidInv (c : Chan) (s : State) : Prop := s.claimInv ∧ s.unowed c

theorem Worked.doOwed (inv : s.claimInv) (live : s.regs.device ≠ .halted) : Worked (State.paidInv c) everyChan s (s.doOwed c) := by
  cases owes : s.work.owed.get c with
  | none =>
    have same : s.doOwed c = s := by simp only [State.doOwed, owes]
    rw [same]
    exact .refl ⟨inv, .inr owes⟩
  | some o =>
    have pay := Worked.payOwed inv live owes
    have taken : Worked State.claimInv everyChan s (s.owe c none) :=
      { inv := (State.owe_none inv live owes).1
        owed := fun d _ none => by
          rw [State.owe]
          dsimp only
          rw [Pair.get_set]
          split
          · rfl
          · exact none
        active := fun ⟨_, other⟩ => absurd trivial other }
    exact (taken.trans pay).imp fun done => ⟨done, pay.unowed trivial (State.owe_none inv live owes).2.unowed⟩

theorem Worked.doExpiry (inv : s.claimInv) : Worked State.claimInv everyChan s (s.doExpiry c) := by
  have taken : Still s { s with work := { s.work with expiry := s.work.expiry.set c false } } := {}
  have disarmed := (taken.workedInv (q := everyChan) inv).trans ((Acts.disarm _ c .expired).worked (taken.claimInv inv))
  exact disarmed.andThen fun _ => (Acts.choose _ _ c).worked disarmed.inv

theorem Worked.settleChan (inv : s.claimInv) (live : s.regs.device ≠ .halted) :
    Worked (State.paidInv c) everyChan s (s.settleChan c) := by
  have done := Worked.doOwed (c := c) inv live
  refine done.andThen fun _ => Worked.ite (fun _ => ?_) fun _ => .refl done.inv
  have expired := Worked.doExpiry (c := c) done.inv.1
  exact expired.imp fun inv => ⟨inv, expired.unowed trivial done.inv.2⟩

/-- Every channel has done what it owed. -/
def State.settledInv (s : State) : Prop := s.claimInv ∧ ∀ c, s.unowed c

theorem Worked.settleBoth (inv : s.claimInv) (live : s.regs.device ≠ .halted) :
    Worked State.settledInv everyChan s (s.eachChan State.settleChan) := by
  have advanced : Worked State.claimInv everyChan s { s with choices := s.choices + 1 } := (Acts.aside {}).worked inv
  have both : ∀ c d, (∀ e, e = c ∨ e = d) →
      Worked State.settledInv everyChan s ((State.settleChan c { s with choices := s.choices + 1 }).andThen (State.settleChan d)) := by
    intro c d all
    have first := Worked.settleChan (c := c) advanced.inv live
    refine (advanced.trans first).andThenTo (fun halted => ⟨first.inv.1, fun _ => .inl halted⟩) fun live => ?_
    have second := Worked.settleChan (c := d) first.inv.1 live
    refine second.imp fun paid => ⟨paid.1, fun e => ?_⟩
    rcases all e with same | same
    · exact same ▸ second.unowed trivial first.inv.2
    · exact same ▸ paid.2
  rw [State.eachChan]
  split
  · exact both .b .a fun e => by cases e <;> simp
  · exact both .a .b fun e => by cases e <;> simp

theorem Worked.settled {t : State} (h : Worked State.claimInv everyChan s t) (paid : ∀ c, s.unowed c) :
    Worked State.settledInv everyChan s t := h.imp fun inv => ⟨inv, fun c => h.unowed trivial (paid c)⟩

theorem Worked.settle (inv : s.claimInv) : Worked State.settledInv everyChan s s.settle := by
  unfold State.settle
  split
  next acts =>
    have live : s.regs.device ≠ .halted := by simp [acts.1]
    have both := Worked.settleBoth inv live
    have ended : Worked State.settledInv everyChan s ((s.eachChan State.settleChan).andThen fun t =>
        if t.work.period then t.doPeriod else t) :=
      both.andThen fun _ => Worked.ite (fun _ => ((Acts.doPeriod _).worked both.inv.1).settled both.inv.2) fun _ => .refl both.inv
    exact ended.andThen fun _ => (Worked.finishFrame ended.inv.1).settled ended.inv.2
  next idle =>
    obtain ⟨-, -, work⟩ := s.claimInv_iff.mp inv
    refine .refl ⟨inv, fun c => ?_⟩
    rcases work c with halted | ⟨owed, -⟩
    · exact .inl halted
    · refine .inr ?_
      by_contra owes
      exact idle (owed owes)

end

end Sys2Proof.Machine

/-! The law of tracking and claims through the decision of the asks (R129 to R131). -/

namespace Sys2Proof.Machine

/-! ### Grants -/

theorem answerOne_granted {claims : List Claim} {k : Ask} (h : answerOne claims k = .granted) :
    (∀ x ∈ claims, x.tag ≠ k.pick.tag) ∧ claims.length < 8 := by
  unfold answerOne at h
  split at h
  next => cases h
  next free =>
    split at h
    next room => exact ⟨fun x member same => free ((holderOf_isSome_iff _ _).mpr ⟨x, member, same⟩), room⟩
    next => cases h

/-- A claim on a free tag joins the table. -/
theorem claimsLaw_append {claims : List Claim} {tag : Nat} (h : Holder) (law : claimsLaw claims) (free : ∀ x ∈ claims, x.tag ≠ tag)
    (room : claims.length < 8) : claimsLaw (claims ++ [⟨tag, h⟩]) := by
  refine ⟨by rw [List.length_append]; exact room, ?_⟩
  rw [List.map_append, List.nodup_append]
  refine ⟨law.2, List.nodup_singleton _, fun a member b new same => ?_⟩
  obtain ⟨x, inTable, e⟩ := List.mem_map.mp member
  exact free x inTable (by rw [e, same]; exact List.mem_singleton.mp new)

theorem penClaims_append (claims : List Claim) (k : Claim) (c : Chan) :
    penClaims (claims ++ [k]) c = penClaims claims c ++ if k.holder = .pen c then [k] else [] := by
  rw [penClaims, List.filter_append]
  by_cases own : k.holder = .pen c
  · simp [own, penClaims]
  · simp [own, penClaims]

/-- What a grant brings about: the law stays, and nothing but the channel, its claim and its highlight is reached. -/
structure Granted (c : Chan) (r : Answer) (s t : State) : Prop where
  inv : t.trackInv
  others : ∀ d, d ≠ c → t.chan d = s.chan d
  idle : r ≠ .granted → ¬(t.chan c).tracks
  work : t.work = s.work
  asks : t.claims.asks = s.claims.asks
  regs : t.regs = s.regs

theorem State.grant_granted {s : State} {c : Chan} (k : Ask) {r : Answer} (inv : s.trackInv) (unowed : s.work.owed.get c = none)
    (idle : ¬(s.chan c).tracks) (room : r = .granted → (∀ x ∈ s.claims.entries, x.tag ≠ k.pick.tag) ∧ s.claims.entries.length < 8) :
    Granted c r s (s.grant c k r) := by
  cases r with
  | contested => exact ⟨inv, fun _ _ => rfl, fun _ => idle, rfl, rfl, rfl⟩
  | full => exact ⟨inv, fun _ _ => rfl, fun _ => idle, rfl, rfl, rfl⟩
  | granted =>
    obtain ⟨free, few⟩ := room rfl
    obtain ⟨claims, track, owed⟩ := inv
    have chosen : Still (s.startTracking c k.pick) ((s.startTracking c k.pick).choose s.closeClaims c) := {}
    have own := s.chan_setChan c
    refine ⟨chosen.trackInv (State.trackInv_moved (fun d _ => track d) owed ?_ (claimsLaw_append _ claims free few) ?_ ?_), ?_,
      fun e => absurd rfl e, rfl, rfl, rfl⟩
    · refine (owed c).imp_right fun ⟨_, asks, _⟩ => ⟨fun owes => absurd unowed owes, asks, ?_⟩
      exact ⟨fun e => absurd (unowed.symm.trans e) nofun, fun e => absurd (unowed.symm.trans e) nofun,
        fun e => absurd (unowed.symm.trans e) nofun⟩
    · intro d ne
      rw [penClaims_append, if_neg (by simpa using ne.symm), List.append_nil]
    · rw [State.trackLaw_iff]
      have chan : ∀ y k, ((s.setChan c y).onClaims k).chan c = y := fun y _ => s.chan_setChan c y
      rw [chan]
      refine ⟨fun _ => ⟨_, rfl, .inl ?_⟩, fun still => absurd (.inl rfl) still⟩
      change penClaims (s.claims.entries ++ [⟨k.pick.tag, .pen c⟩]) c = _
      rw [penClaims_append, if_pos rfl, State.penClaims_nil (track c) idle]
      rfl
    · exact fun d ne => s.chan_setChan_ne _ ne

/-! ### Answers -/

/-- The law while asks are answered, with a channel that, where it is to be refused, tracks nothing. -/
def State.answering (d : Chan) (idle : Prop) (s : State) : Prop := s.trackInv ∧ (idle → ¬(s.chan d).tracks)

section

variable {q : Chan → Prop} {s t : State} {c d : Chan} {idle : Prop}

theorem Still.answering (h : Still s t) (inv : s.answering d idle) : t.answering d idle :=
  ⟨h.trackInv inv.1, fun i => by rw [h.tracks]; exact inv.2 i⟩

theorem Worked.answerGoes {f : Channel → Channel} (h : Acts s t) (ne : d ≠ c) (inv : s.answering d idle) (rest : s.restful c)
    (before : ¬(s.chan c).tracks) (after : ∀ x, ¬(f x).tracks) :
    Worked (State.answering d idle) q s (t.andThen fun u => u.onChan c f) := by
  have still := h.settled.still
  have recorded : Worked (State.answering d idle) q s t := still.worked (still.answering inv)
  refine recorded.andThen fun _ => { inv := ⟨?_, fun i => ?_⟩ }
  · exact (State.freed_of_idle recorded.inv.1 (by rwa [still.tracks])).goes (still.restful rest) (after _)
  · rw [State.chan_onChan_ne _ _ ne]
    exact recorded.inv.2 i

/-- An answered channel is at rest, and the other is as it was. -/
theorem Worked.afterAnswer {k : Ask} {r : Answer} (ne : d ≠ c) (inv : s.answering d idle) (live : s.regs.device ≠ .halted)
    (unowed : s.work.owed.get c = none) (refused : r ≠ .granted → ¬(s.chan c).tracks) :
    Worked (State.answering d idle) everyChan s (s.afterAnswer c k r) ∧ (s.afterAnswer c k r).restful c := by
  obtain ⟨⟨claims, track, owed⟩, other⟩ := inv
  have rest : (s.setAsk c none).restful c := .inr ⟨unowed, Pair.get_set_same _ _ _⟩
  have asked : (s.setAsk c none).answering d idle := by
    refine ⟨⟨claims, track, fun e => ?_⟩, other⟩
    by_cases same : e = c
    · exact same ▸ rest.owedLaw
    · have law := owed e
      rw [State.owedLaw] at law ⊢
      rw [State.setAsk]
      dsimp only
      rw [Pair.get_set_ne _ _ same]
      exact law
  have taken : Worked (State.answering d idle) everyChan s (s.setAsk c none) :=
    { inv := asked
      asks := fun e _ none => by
        rw [State.setAsk]
        dsimp only
        rw [Pair.get_set]
        split
        · rfl
        · exact none }
  have chosen : ∀ t, Worked (State.answering d idle) everyChan (s.setAsk c none) t →
      Worked (State.answering d idle) everyChan s (t.andThen fun u => u.choose u.closeClaims c) ∧
        (t.andThen fun u => u.choose u.closeClaims c).restful c := by
    intro t h
    have still : Still t (t.choose t.closeClaims c) := {}
    have worked : Worked (State.answering d idle) everyChan (s.setAsk c none) (t.andThen fun u => u.choose u.closeClaims c) :=
      h.andThen fun _ => still.worked (still.answering h.inv)
    exact ⟨taken.trans worked, worked.restful trivial rest⟩
  have picked : ∀ n, r ≠ .granted → Worked (State.answering d idle) everyChan (s.setAsk c none)
      (((s.setAsk c none).recordPick c k.pick n false).andThen fun u => u.onChan c fun x => x.leavePressed.goto .watch) :=
    fun n no => Worked.answerGoes (Acts.recordPick c k.pick n _ live) ne asked rest (refused no)
      fun _ => not_tracks_of_mode (m := .watch) rfl nofun nofun
  unfold State.afterAnswer
  cases r with
  | granted =>
    have still := (Acts.recordPick (s := s.setAsk c none) c k.pick {} true live).settled.still
    exact chosen _ (still.worked (still.answering asked))
  | full => exact chosen _ (picked _ nofun)
  | contested =>
    dsimp only
    refine chosen _ ?_
    split
    · exact picked _ nofun
    · exact Worked.answerGoes (Acts.record (s.setAsk c none) c _ _) ne asked rest (refused nofun)
        fun _ => not_tracks_of_mode (m := .watch) rfl nofun nofun

/-- Every channel asks nothing, unless HALTED has frozen what it found. -/
def State.answeredInv (s : State) : Prop := s.claimInv ∧ ∀ c, s.regs.device = .halted ∨ s.claims.asks.get c = none

theorem State.answeredInv_of_rest (inv : s.trackInv) (rest : ∀ c, s.regs.device = .halted ∨ s.claims.asks.get c = none) :
    s.answeredInv :=
  ⟨s.claimInv_iff_trackInv.mpr ⟨inv, fun c => (rest c).imp_right fun none asking => absurd none asking⟩, rest⟩

theorem Worked.unasked {P : State → Prop} (h : Worked P everyChan s t) (free : s.regs.device = .halted ∨ s.claims.asks.get c = none) :
    t.regs.device = .halted ∨ t.claims.asks.get c = none := by
  rcases h.device with same | halted
  · exact free.imp same.trans (h.asks c trivial)
  · exact .inl halted

theorem chan_eq_or_other (c d : Chan) : d = c ∨ d = otherChan c := by cases c <;> cases d <;> decide

/-- A lone ask answered. -/
theorem Worked.answerLone {k : Ask} {r : Answer} (inv : s.trackInv) (live : s.regs.device ≠ .halted)
    (unowed : s.work.owed.get c = none) (unasked : s.claims.asks.get (otherChan c) = none)
    (refused : r ≠ .granted → ¬(s.chan c).tracks) : Worked State.answeredInv everyChan s (s.afterAnswer c k r) := by
  obtain ⟨worked, rest⟩ := Worked.afterAnswer (k := k) (idle := False) (chan_ne_other c).symm ⟨inv, False.elim⟩ live unowed refused
  refine worked.imp fun inv => State.answeredInv_of_rest inv.1 fun e => ?_
  rcases chan_eq_or_other c e with rfl | rfl
  · exact rest.imp_right And.right
  · exact worked.unasked (.inr unasked)

/-- Both asks answered, in either order. -/
theorem Worked.answerEach {k : Chan → Ask} {r : Chan → Answer} (inv : s.trackInv) (live : s.regs.device ≠ .halted)
    (unowed : ∀ e, s.work.owed.get e = none) (refused : ∀ e, r e ≠ .granted → ¬(s.chan e).tracks) :
    Worked State.answeredInv everyChan s (s.eachChan fun e t => t.afterAnswer e (k e) (r e)) := by
  have advanced : Still s { s with choices := s.choices + 1 } := {}
  have both : ∀ e, Worked State.answeredInv everyChan s ((State.afterAnswer { s with choices := s.choices + 1 } e (k e) (r e)).andThen
      fun t => t.afterAnswer (otherChan e) (k (otherChan e)) (r (otherChan e))) := by
    intro e
    have ne := chan_ne_other e
    obtain ⟨first, rest⟩ := Worked.afterAnswer (s := { s with choices := s.choices + 1 }) (k := k e)
      (idle := r (otherChan e) ≠ .granted) ne.symm ⟨advanced.trackInv inv, refused (otherChan e)⟩ live (unowed e) (refused e)
    refine ((advanced.worked (advanced.trackInv inv)).trans first).andThenTo
      (fun halted => State.answeredInv_of_rest first.inv.1 fun _ => .inl halted) fun live => ?_
    obtain ⟨second, rest'⟩ := Worked.afterAnswer (k := k (otherChan e)) (idle := False) ne ⟨first.inv.1, False.elim⟩ live
      (first.owed _ trivial (unowed _)) first.inv.2
    refine second.imp fun inv => State.answeredInv_of_rest inv.1 fun d => ?_
    rcases chan_eq_or_other e d with rfl | rfl
    · exact second.unasked (rest.imp_right And.right)
    · exact rest'.imp_right And.right
  rw [State.eachChan]
  split
  · exact both .b
  · exact both .a

/-! ### The decision -/

/-- A channel that asks is in PRESSED and owes nothing. -/
theorem State.asking {k : Ask} (inv : s.claimInv) (live : s.regs.device ≠ .halted) (asks : s.claims.asks.get c = some k) :
    s.work.owed.get c = none ∧ ¬(s.chan c).tracks := by
  obtain ⟨-, -, work⟩ := s.claimInv_iff.mp inv
  obtain ⟨-, asking, -⟩ := (work c).resolve_left live
  obtain ⟨-, mode, unowed⟩ := asking (by simp [asks])
  exact ⟨unowed, not_tracks_of_mode mode nofun nofun⟩

theorem Granted.worked {r : Answer} (h : Granted c r s t) : Worked State.trackInv everyChan s t where
  inv := h.inv
  device := .inl (by rw [h.regs])
  owed := fun e _ none => by rwa [h.work]
  asks := fun e _ none => by rwa [h.asks]
  active := fun _ => by rw [h.work]

theorem Worked.decideLone {k : Ask} (inv : s.claimInv) (live : s.regs.device ≠ .halted)
    (asks : s.claims.asks.get c = some k) (lone : s.claims.asks.get (otherChan c) = none) :
    Worked State.answeredInv everyChan s
      ((s.grant c k (answerOne s.claims.entries k)).afterAnswer c k (answerOne s.claims.entries k)) := by
  obtain ⟨unowed, idle⟩ := State.asking inv live asks
  have grants := State.grant_granted k ((s.claimInv_iff_trackInv).mp inv).1 unowed idle answerOne_granted
  refine grants.worked.trans (Worked.answerLone grants.inv ?_ ?_ ?_ grants.idle)
  · rw [grants.regs]
    exact live
  · rw [grants.work]
    exact unowed
  · rw [grants.asks]
    exact lone

theorem answer_second {same : Prop} [Decidable same] {r : Answer} (h : (if same then .contested else r) = Answer.granted) :
    r = .granted := by
  split at h
  · cases h
  · exact h

/-- Of two asks one is decided before the other, and then both are answered. -/
theorem Worked.decideBoth {kc kd : Ask} {rc rd : Answer} {same : Prop} [Decidable same] (inv : s.claimInv)
    (live : s.regs.device ≠ .halted) (asksC : s.claims.asks.get c = some kc) (asksD : s.claims.asks.get (otherChan c) = some kd)
    (first : rc = answerOne s.claims.entries kc)
    (second : rd = if same then .contested else answerOne (s.grant c kc rc).claims.entries kd)
    {f : Chan → State → State} (answerC : ∀ t, f c t = t.afterAnswer c kc rc)
    (answerD : ∀ t, f (otherChan c) t = t.afterAnswer (otherChan c) kd rd) :
    Worked State.answeredInv everyChan s (((s.grant c kc rc).grant (otherChan c) kd rd).eachChan f) := by
  have ne := chan_ne_other c
  have each : f = fun e t => t.afterAnswer e (if e = c then kc else kd) (if e = c then rc else rd) := by
    funext e t
    rcases chan_eq_or_other c e with rfl | rfl
    · simp [answerC]
    · simp [answerD, ne.symm]
  obtain ⟨unowedC, idleC⟩ := State.asking inv live asksC
  obtain ⟨unowedD, idleD⟩ := State.asking inv live asksD
  have one := State.grant_granted kc ((s.claimInv_iff_trackInv).mp inv).1 unowedC idleC
    (r := rc) fun yes => answerOne_granted (first.symm.trans yes)
  have two := State.grant_granted (c := otherChan c) kd (r := rd) one.inv (by rw [one.work]; exact unowedD)
    (by rw [one.others _ ne.symm]; exact idleD) fun yes => answerOne_granted (answer_second (second.symm.trans yes))
  rw [each]
  refine (one.worked.trans two.worked).trans (Worked.answerEach two.inv ?_ (fun e => ?_) fun e => ?_)
  · rw [two.regs, one.regs]
    exact live
  · rw [two.work, one.work]
    rcases chan_eq_or_other c e with rfl | rfl
    · exact unowedC
    · exact unowedD
  · rcases chan_eq_or_other c e with rfl | rfl
    · rw [two.others _ ne, if_pos rfl]
      exact one.idle
    · rw [if_neg ne.symm]
      exact two.idle

theorem Worked.decideAsks (inv : s.claimInv) (live : s.regs.device ≠ .halted) :
    Worked State.answeredInv everyChan s s.decideAsks := by
  unfold State.decideAsks
  split
  next noneA noneB =>
    refine .refl ⟨inv, fun c => .inr ?_⟩
    cases c
    · exact noneA
    · exact noneB
  next asksA noneB => exact Worked.decideLone (c := .a) inv live asksA noneB
  next noneA asksB => exact Worked.decideLone (c := .b) inv live asksB noneA
  next ka kb asksA asksB =>
    dsimp only
    cases pressAFirst s.beam.frame ka.press kb.press
    · exact Worked.decideBoth (c := .b) inv live asksB asksA rfl rfl (fun _ => rfl) fun _ => rfl
    · exact Worked.decideBoth (c := .a) inv live asksA asksB rfl rfl (fun _ => rfl) fun _ => rfl

theorem Worked.stepAsks (inv : s.claimInv) : Worked State.answeredInv everyChan s s.stepAsks := by
  unfold State.stepAsks
  split
  next acts =>
    have decided := Worked.decideAsks inv (by simp [acts.1])
    refine decided.andThen fun _ => ?_
    have ended := Worked.finishFrame decided.inv.1
    exact ended.imp fun inv => ⟨inv, fun c => ended.unasked (decided.inv.2 c)⟩
  next idle =>
    obtain ⟨-, -, work⟩ := s.claimInv_iff.mp inv
    refine .refl ⟨inv, fun c => ?_⟩
    rcases work c with halted | ⟨-, asks, -⟩
    · exact .inl halted
    · refine .inr ?_
      by_contra asking
      refine idle ⟨(asks asking).1, ?_⟩
      cases c
      · exact .inl (Option.isSome_iff_ne_none.mpr asking)
      · exact .inr (Option.isSome_iff_ne_none.mpr asking)

/-- Every channel is at rest. -/
def State.restInv (s : State) : Prop := s.claimInv ∧ ∀ c, s.restful c

theorem Worked.settleAll (inv : s.claimInv) : Worked State.restInv everyChan s s.settleAll := by
  have settled := Worked.settle inv
  have rests : ∀ u : State, u.claimInv → (∀ c, u.unowed c) → (∀ c, u.regs.device = .halted ∨ u.claims.asks.get c = none) →
      u.restInv := by
    intro u inv unowed unasked
    refine ⟨inv, fun c => ?_⟩
    rcases unowed c with halted | owed
    · exact .inl halted
    · exact (unasked c).imp_right fun asks => ⟨owed, asks⟩
  refine settled.andThenTo (fun halted => ⟨settled.inv.1, fun _ => .inl halted⟩) fun _ => ?_
  have asked := Worked.stepAsks settled.inv.1
  exact asked.imp fun answered => rests _ answered.1 (fun c => asked.unowed trivial (settled.inv.2 c)) answered.2

end

end Sys2Proof.Machine

/-! The law of tracking and claims through glare, the console switches, the installs, the requests and every command. -/

namespace Sys2Proof.Machine

section

variable {s : State} {c : Chan}

theorem State.idleInv.freeing {c : Chan} {t : State} (h : t.idleInv c) : t.freeing c := State.freeing_of_idle h.1 h.2

/-! ### Glare -/

theorem Worked.glareEndsWork (inv : s.claimInv) (rest : s.restful c) :
    Worked (State.freeing c) everyChan s (s.glareEndsWork c) := by
  have idle : ∀ m, (s.chan c).mode = m → m ≠ .tracking → m ≠ .suspended → s.idleInv c :=
    fun m mode off on => ⟨inv, not_tracks_of_mode mode off on⟩
  unfold State.glareEndsWork
  split
  next mode => exact .refl (idle _ mode nofun nofun).freeing
  next mode => exact .refl (idle _ mode nofun nofun).freeing
  next mode => exact (Worked.missAndGo (m := .pressed) _ _ _ (idle _ mode nofun nofun) rest nofun nofun).imp State.idleInv.freeing
  next mode => exact (Worked.endCalibration (m := .calibrating) _ (idle _ mode nofun nofun) rest nofun nofun).imp State.idleInv.freeing
  next => exact Worked.closeTracking _ inv
  next => exact Worked.closeTracking _ inv
  next mode => exact .refl (idle _ mode nofun nofun).freeing

/-- The collection of a channel ends between the end of its tracking and the change of its state. -/
theorem Worked.freeingCollection {t : State} (h : Worked (State.freeing c) everyChan s t) (o : SeqOutcome) :
    Worked (State.freeing c) everyChan s (t.andThen fun u => u.endCollection c o) :=
  h.andThenTo (fun _ => h.inv) fun live =>
    have still := (Acts.endCollection t c o).settled.still
    still.worked (still.freeing (h.inv.2 live))

theorem Worked.leavesFreed {t : State} {f : Channel → Channel} (h : Worked (State.freeing c) everyChan s t) (rest : s.restful c)
    (after : ∀ x, ¬(f x).tracks) :
    Worked State.claimInv everyChan s (t.andThen fun u => (u.onChan c f).chooseNow c) := by
  refine h.andThenTo h.inv.1 fun live => ?_
  have left := (Worked.leaves (q := everyChan) (h.inv.2 live) (h.restful trivial rest) (after _)).imp And.left
  exact left.trans ((Acts.chooseNow _ c).worked left.inv)

theorem Worked.glareBegins (inv : s.claimInv) (rest : s.restful c) : Worked State.claimInv everyChan s (s.glareBegins c) := by
  have emptied : Still s ((s.onChan c fun x => { x with pendingStrikes := [], results := [], table := [] }).chooseNow c) :=
    ⟨s.setChan_keeps Channel.mode rfl, s.setChan_keeps Channel.tracked rfl, rfl, rfl, rfl, rfl, .inl rfl⟩
  have ended := (emptied.workedInv inv).trans (Worked.glareEndsWork (emptied.claimInv inv) (emptied.restful rest))
  have collected := ended.freeingCollection .aborted
  have entered := collected.leavesFreed (f := Channel.enterGlare) rest fun _ => not_tracks_of_mode (m := .glare) rfl nofun nofun
  exact entered.andThen fun _ => (Acts.record _ c _ _).worked entered.inv

theorem Worked.glareEnds (inv : s.claimInv) (rest : s.restful c) (mode : (s.chan c).mode = .glare) :
    Worked State.claimInv everyChan s (s.glareEnds c) := by
  have ended := (Worked.recordGoes (q := everyChan) (f := fun x => { x with mode := .watch, table := [], pendingStrikes := [] })
    (Acts.record s c {} (.glareEnd (s.chan c).glareFrames (s.chan c).reminders)) ⟨inv, not_tracks_of_mode mode nofun nofun⟩ rest
    fun _ => not_tracks_of_mode (m := .watch) rfl nofun nofun).imp And.left
  exact ended.andThen fun _ => (Acts.chooseNow _ c).worked ended.inv

theorem Worked.lineLeaves (inv : s.claimInv) : Worked State.claimInv everyChan s (s.lineLeaves c) := by
  have pin : Still s (s.onChan c fun x => { x with lineHigh := !(s.chanConfig c).edge.activeHigh }) := Still.onChan s c
  have settled := (pin.workedInv inv).trans (Worked.settle (pin.claimInv inv))
  have stopped : ∀ t u : State, t.settledInv → Still t u → Worked State.claimInv everyChan t
      (if (u.chan c).mode = .glare then u.glareEnds c else u) := by
    intro t u inv still
    refine (still.workedInv inv.1).trans (Worked.ite (fun mode => ?_) fun _ => .refl (still.claimInv inv.1))
    exact Worked.glareEnds (still.claimInv inv.1) (still.restful (State.restful_of_mode inv.1 (inv.2 c) (by
      rw [← still.mode, mode]
      exact nofun))) mode
  refine settled.andThenTo (fun _ => settled.inv.1) fun _ => Worked.ite (fun _ => ?_) fun _ => .refl settled.inv.1
  exact stopped _ _ settled.inv (Still.onChan _ c)

/-! ### The console switches -/

theorem Worked.pressChan (inv : s.claimInv) (unowed : s.unowed c) (r : Role) : Worked State.claimInv everyChan s (s.pressChan c r) := by
  unfold State.pressChan
  split
  next mode =>
    have pressed : ∀ f : Channel → Channel, (∀ x, (f x).mode = .pressed) →
        Worked State.claimInv everyChan s ((s.onChan c f).chooseNow c) := by
      intro f now
      have goes := (Worked.goes (q := everyChan) (f := f) ⟨inv, not_tracks_of_mode mode nofun nofun⟩
        (State.restful_of_mode inv unowed (by rw [mode]; exact nofun)) (not_tracks_of_mode (now _) nofun nofun)).imp And.left
      exact goes.trans ((Acts.chooseNow _ c).worked goes.inv)
    exact pressed _ fun _ => rfl
  next => exact .refl inv

theorem Worked.penSwitch (inv : s.claimInv) (unowed : s.unowed c) (r : Role) (pressed : Bool) :
    Worked State.claimInv everyChan s (s.penSwitch c r pressed) := by
  have presented := (Acts.present s .penSwitch).worked (q := everyChan) inv
  unfold State.penSwitch
  generalize s.present .penSwitch = p at presented ⊢
  obtain ⟨_ | _, t⟩ := p
  · exact presented
  · refine Worked.ite (fun _ => ?_) fun _ => presented
    exact presented.trans (Worked.pressChan presented.inv (presented.unowed trivial unowed) r)

theorem Worked.completeDebounce (inv : s.settledInv) (i : Fin 8) : Worked State.settledInv everyChan s (s.completeDebounce i) := by
  have set : ∀ w, Still s (s.setInput i w) := fun w => (Acts.setInput s i w).settled.still
  have handed : ∀ w pressed, Worked State.claimInv everyChan s ((s.setInput i w).handOn i pressed) := by
    intro w pressed
    refine ((set w).workedInv inv.1).trans ?_
    unfold State.handOn
    split
    · exact Worked.penSwitch ((set w).claimInv inv.1) (((set w).workedInv (q := everyChan) inv.1).unowed trivial (inv.2 _)) _ _
    · exact (Acts.consoleSwitch _ i pressed).worked ((set w).claimInv inv.1)
  unfold State.completeDebounce
  exact Worked.ite (fun _ => (handed _ _).settled inv.2) fun _ => ((set _).workedInv inv.1).settled inv.2

theorem Worked.rawChange (inv : s.settledInv) (i : Fin 8) (pressed : Bool) :
    Worked State.settledInv everyChan s (s.rawChange i pressed) := by
  have set : ∀ w, Worked State.settledInv everyChan s (s.setInput i w) := fun w =>
    ((Acts.setInput s i w).worked inv.1).settled inv.2
  unfold State.rawChange
  refine Worked.ite (fun _ => set _) fun _ => Worked.ite (fun _ => .refl inv) fun _ => Worked.ite (fun _ => set _) fun _ => ?_
  exact Worked.ite (fun _ => (set _).trans (Worked.completeDebounce (set _).inv i)) fun _ => set _

/-! ### The installs -/

theorem Worked.rests {t : State} (h : Worked State.claimInv everyChan s t) (rest : ∀ c, s.restful c) :
    Worked State.restInv everyChan s t := h.imp fun inv => ⟨inv, fun c => h.restful trivial (rest c)⟩

theorem Worked.changeEdge (inv : s.claimInv) (rest : s.restful c) (e : Edge) :
    Worked State.claimInv everyChan s (s.changeEdge c e) := by
  have stopped : ∀ t, Still s t → Worked State.claimInv everyChan s (if (t.chan c).mode = .glare then t.glareEnds c else t) :=
    fun t still => (still.workedInv inv).trans (Worked.ite
      (fun mode => Worked.glareEnds (still.claimInv inv) (still.restful rest) mode) fun _ => .refl (still.claimInv inv))
  unfold State.changeEdge
  exact Worked.ite (fun _ => (Still.onChan s c).workedInv inv) fun _ => stopped _ (Still.onChan s c)

theorem Worked.changeFields (inv : s.claimInv) (rest : s.restful c) (was now : ChannelConfig) :
    Worked State.claimInv everyChan s (s.changeFields c was now) := by
  have emptied : Still s (s.changeHistory c) :=
    ⟨s.setChan_keeps Channel.mode rfl, s.setChan_keeps Channel.tracked rfl, rfl, rfl, rfl, rfl, .inl rfl⟩
  have edged : ∀ t, t.claimInv → t.restful c → Worked State.claimInv everyChan t
      (if was.edge = now.edge then t else t.changeEdge c now.edge) :=
    fun t inv rest => Worked.ite (fun _ => .refl inv) fun _ => Worked.changeEdge inv rest _
  have glared : ∀ t, t.claimInv → t.restful c → Worked State.claimInv everyChan t
      (if was.glareThreshold = now.glareThreshold then t else t.changeThreshold c now.glareThreshold) := by
    intro t inv rest
    refine Worked.ite (fun _ => .refl inv) fun _ => ?_
    unfold State.changeThreshold
    exact Worked.ite (fun _ => Worked.glareBegins inv rest) fun _ => .refl inv
  have first : Worked State.claimInv everyChan s (if was.m = now.m ∧ was.k = now.k then s else s.changeHistory c) :=
    Worked.ite (fun _ => .refl inv) fun _ => emptied.workedInv inv
  have second := first.andThen (f := fun t => if was.edge = now.edge then t else t.changeEdge c now.edge) fun _ => edged _ first.inv (first.restful trivial rest)
  exact second.andThen fun _ => glared _ second.inv (second.restful trivial rest)

theorem Worked.disableChan (inv : s.claimInv) (rest : s.restful c) : Worked State.claimInv everyChan s (s.disableChan c) := by
  have idle : ∀ m, (s.chan c).mode = m → m ≠ .tracking → m ≠ .suspended → s.idleInv c :=
    fun m mode off on => ⟨inv, not_tracks_of_mode mode off on⟩
  have rested : ∀ t, Worked (State.freeing c) everyChan s t → Worked State.claimInv everyChan s
      ((t.andThen fun u => u.endCollection c .aborted).andThen fun u => (u.onChan c Channel.switchOff).chooseNow c) :=
    fun t h => (h.freeingCollection .aborted).leavesFreed rest
      fun _ => not_tracks_of_mode (m := .off) rfl nofun nofun
  unfold State.disableChan
  refine rested _ ?_
  split
  next mode => exact .refl (idle _ mode nofun nofun).freeing
  next mode => exact .refl (idle _ mode nofun nofun).freeing
  next mode => exact .refl (idle _ mode nofun nofun).freeing
  next mode => exact (Worked.endCalibration (m := .calibrating) _ (idle _ mode nofun nofun) rest nofun nofun).imp State.idleInv.freeing
  next => exact Worked.closeTracking _ inv
  next => exact Worked.closeTracking _ inv
  next mode => exact .refl (idle _ mode nofun nofun).freeing

theorem Worked.installChan (inv : s.claimInv) (rest : s.restful c) (was now : ChannelConfig) :
    Worked State.claimInv everyChan s (s.installChan c was now) := by
  have enabled : (s.chan c).mode = .off → Worked State.claimInv everyChan s ((s.onChan c fun x => x.enableWith now).chooseNow c) := by
    intro mode
    have goes := (Worked.goes (q := everyChan) (f := fun x => x.enableWith now) ⟨inv, not_tracks_of_mode mode nofun nofun⟩ rest
      (not_tracks_of_mode (m := .watch) rfl nofun nofun)).imp And.left
    exact goes.trans ((Acts.chooseNow _ c).worked goes.inv)
  have taken : Worked State.claimInv everyChan s (if (s.chan c).mode = .off then
      if now.enable then (s.onChan c fun x => x.enableWith now).chooseNow c else s
    else if now.enable then s.changeFields c was now
    else s.disableChan c) :=
    Worked.ite (fun mode => Worked.ite (fun _ => enabled mode) fun _ => .refl inv) fun _ =>
      Worked.ite (fun _ => Worked.changeFields inv rest was now) fun _ => Worked.disableChan inv rest
  exact taken.andThen fun _ => Worked.ite (fun _ => (Still.onChan _ c).workedInv taken.inv) fun _ => .refl taken.inv

theorem Worked.completeReached (inv : s.settledInv) (l : List (Fin 8)) : Worked State.settledInv everyChan s (s.completeReached l) := by
  induction l generalizing s with
  | nil => exact .refl inv
  | cons i rest ih =>
    have first : Worked State.settledInv everyChan s
        (if s.config.debounce ≤ ((s.inputs.get i).timer.getD 0) ∧ (s.inputs.get i).timer.isSome then s.completeDebounce i else s) :=
      Worked.ite (fun _ => Worked.completeDebounce inv i) fun _ => .refl inv
    exact first.andThen fun _ => ih first.inv

theorem Worked.installConfig (inv : s.restInv) (live : s.regs.device ≠ .halted) (was : Configuration) :
    Worked State.claimInv everyChan s (s.installConfig was) := by
  have chans : Worked State.claimInv everyChan s (s.eachChan fun c t => t.installChan c (was.chans.get c) (t.chanConfig c)) :=
    Worked.eachChan inv.1 live fun c t h _ => Worked.installChan h.inv (h.restful trivial (inv.2 c)) _ _
  have fed := chans.andThen (f := fun t => { t with feedback := t.feedback.install t.config.period t.config.onCount })
    fun _ => (Acts.aside {}).worked chans.inv
  refine fed.andThen fun _ => ?_
  have console : ∀ t, t.claimInv → (∀ c, t.unowed c) → Worked State.claimInv everyChan t t.installConsole := by
    intro t inv unowed
    have begun : Worked State.claimInv everyChan t { t with idle := t.idle.install t.idleTime, choices := t.choices + 1 } :=
      (Acts.aside {}).worked inv
    exact begun.trans ((Worked.completeReached (begun.settled unowed).inv _).imp And.left)
  exact console _ fed.inv fun c => fed.unowed trivial (inv.2 c).unowed

end

end Sys2Proof.Machine

/-! Every step keeps the law of tracking and claims. -/

namespace Sys2Proof.Machine

section

variable {s : State} {c : Chan}

/-! ### The requests -/

theorem State.claimInv_onClaims {f : List Claim → List Claim} (inv : s.claimInv) (claims : claimsLaw (f s.claims.entries))
    (pens : ∀ d, penClaims (f s.claims.entries) d = penClaims s.claims.entries d) : (s.onClaims f).claimInv := by
  obtain ⟨-, track, work⟩ := s.claimInv_iff.mp inv
  refine (State.claimInv_iff _).mpr ⟨claims, fun d => ?_, work⟩
  have law := (s.trackLaw_iff d).mp (track d)
  have pen : penClaims (s.onClaims f).claims.entries d = penClaims s.claims.entries d := pens d
  rw [State.trackLaw_iff, pen]
  exact law

theorem holderOf_eq_some {claims : List Claim} {tag : Nat} {h : Holder} (held : holderOf claims tag = some h) :
    ∃ k ∈ claims, k.tag = tag ∧ k.holder = h := by
  obtain ⟨k, found, holder⟩ := Option.map_eq_some_iff.mp held
  exact ⟨k, List.mem_of_find?_eq_some found, by simpa using List.find?_some found, holder⟩

theorem Worked.dropTracking (inv : s.claimInv) (rest : s.restful c) (e : EndReason) :
    Worked State.claimInv everyChan s (s.dropTracking c e) := by
  have ended := Worked.endTracking (q := everyChan) e inv rest
  exact ended.andThen fun _ => (Still.onChan _ c).workedInv ended.inv

theorem Worked.forChan {P : State → Prop} {q : Chan → Prop} (inv : P s) (r : RequestArgs) {f : Chan → State × ReqOutcome}
    (h : ∀ c, Worked P q s (f c).1) : Worked P q s (s.forChan r f).1 := by
  unfold State.forChan
  split
  · exact .refl inv
  · exact h _

theorem Worked.forEnabled {P : State → Prop} {q : Chan → Prop} (inv : P s) (r : RequestArgs) {f : Chan → State × ReqOutcome}
    (h : ∀ c, Worked P q s (f c).1) : Worked P q s (s.forEnabled r f).1 := by
  refine Worked.forChan inv r fun c => ?_
  split
  · exact .refl inv
  · exact h c

theorem Worked.decideClaim (inv : s.claimInv) (r : RequestArgs) : Worked State.claimInv everyChan s (s.decideClaim r).1 := by
  unfold State.decideClaim
  split
  · exact .refl inv
  next free =>
    split
    · exact .refl inv
    next room =>
      refine { inv := State.claimInv_onClaims inv (claimsLaw_append _ inv.1 ?_ (Nat.lt_of_not_le room)) fun d => ?_ }
      · exact fun x member same => free ((holderOf_isSome_iff _ _).mpr ⟨x, member, same⟩)
      · rw [penClaims_append, if_neg nofun, List.append_nil]

theorem Worked.decideRelease (inv : s.settledInv) (r : RequestArgs) : Worked State.claimInv everyChan s (s.decideRelease r).1 := by
  obtain ⟨law, unowed⟩ := inv
  unfold State.decideRelease
  split
  next => exact .refl law
  next program =>
    obtain ⟨k, inTable, tag, holder⟩ := holderOf_eq_some program
    refine { inv := State.claimInv_onClaims law (law.1.sublist List.filter_sublist) fun d => ?_ }
    rw [penClaims, List.filter_filter, penClaims]
    refine List.filter_congr fun x member => ?_
    by_cases pen : x.holder = .pen d
    · have other : x.tag ≠ r.first.toNat := by
        intro same
        have one := List.inj_on_of_nodup_map law.1.2 member inTable (same.trans tag.symm)
        rw [one, holder] at pen
        cases pen
      simp [pen, other]
    · simp [pen]
  next c pen =>
    obtain ⟨k, inTable, -, holder⟩ := holderOf_eq_some pen
    refine Worked.dropTracking law (State.restful_of_mode law (unowed c) fun pressed => ?_) _
    have none := State.penClaims_nil ((s.claimInv_iff.mp law).2.1 c) (not_tracks_of_mode pressed nofun nofun)
    exact absurd (List.mem_filter.mpr ⟨inTable, by simp [holder]⟩) (List.eq_nil_iff_forall_not_mem.mp none k)

/-- A channel that tracks goes on tracking its element, or suspends it. -/
theorem Worked.tracksOn {f : Channel → Channel} (inv : s.claimInv) (rest : s.restful c) (before : (s.chan c).tracks)
    (after : (f (s.chan c)).tracks) (tracked : (f (s.chan c)).tracked = (s.chan c).tracked) :
    Worked State.claimInv everyChan s (s.onChan c f) where
  inv := by
    obtain ⟨⟨claims, track, owed⟩, asks⟩ := s.claimInv_iff_trackInv.mp inv
    have moved := State.trackInv_moved (c := c) (y := f (s.chan c)) (k := s.claims.entries) (fun d _ => track d) owed
      (State.restful.owedLaw (s := (s.setChan c (f (s.chan c))).onClaims fun _ => s.claims.entries) rest) claims (fun _ _ => rfl) (by
        have chan : ((s.setChan c (f (s.chan c))).onClaims fun _ => s.claims.entries).chan c = f (s.chan c) := s.chan_setChan c _
        rw [State.trackLaw_iff, chan, tracked]
        exact ⟨fun _ => ((s.trackLaw_iff c).mp (track c)).1 before, fun idle => absurd after idle⟩)
    exact (State.claimInv_iff_trackInv _).mpr ⟨moved, State.askLaw_setChan asks rest⟩

theorem Worked.dispatch (inv : s.settledInv) (code : BitVec 8) (r : RequestArgs) :
    Worked State.claimInv everyChan s (s.dispatch code r).1 := by
  obtain ⟨law, unowed⟩ := inv
  have rests : ∀ c m, (s.chan c).mode = m → m ≠ .pressed → s.restful c :=
    fun c m mode other => State.restful_of_mode law (unowed c) (mode ▸ other)
  unfold State.dispatch
  split
  · exact (Acts.decideLock s r _).worked law
  · exact (Acts.decideLock s r _).worked law
  · exact (Acts.decideLockAll s r _).worked law
  · exact (Acts.decideLockAll s r _).worked law
  · exact Worked.decideClaim law r
  · exact Worked.decideRelease ⟨law, unowed⟩ r
  · refine Worked.forEnabled law r fun c => ?_
    split
    next mode => exact Worked.tracksOn (f := fun x => x.goto .suspended) law (rests c _ mode nofun) (.inl mode) (.inr rfl) rfl
    next => exact .refl law
  · refine Worked.forEnabled law r fun c => ?_
    split
    next mode =>
      split
      · exact Worked.tracksOn (f := fun x => { x with mode := .tracking, loss := 0 }) law (rests c _ mode nofun) (.inr mode)
          (.inl rfl) rfl
      · exact Worked.dropTracking law (rests c _ mode nofun) _
    next => exact .refl law
  · refine Worked.forEnabled law r fun c => ?_
    split
    next mode =>
      exact (Worked.goes (f := fun x => x.startCalibration r.first.toNat) ⟨law, not_tracks_of_mode mode nofun nofun⟩
        (rests c _ mode nofun) (not_tracks_of_mode (m := .calibrating) rfl nofun nofun)).imp And.left
    next => exact .refl law
  · refine Worked.forEnabled law r fun c => ?_
    split
    next mode =>
      exact (Worked.endCalibration (m := .watch) _ ⟨law, not_tracks_of_mode mode nofun nofun⟩ (rests c _ mode nofun)
        nofun nofun).imp And.left
    next => exact .refl law
  · exact (Acts.decideOpen s r).worked law
  · exact (Acts.decideHome s r).worked law
  · exact (Acts.decideCollect s r).worked law
  · exact (Acts.decideEndCollection s r).worked law
  · exact (Acts.decideInject s r).worked law
  · exact .refl law

theorem Worked.sample (inv : s.settledInv) : Worked State.claimInv everyChan s s.sample := by
  have taken : ∀ t : State, t.settledInv → ∀ code r, Worked State.claimInv everyChan t (t.takeCell code r) := by
    intro t inv code r
    unfold State.takeCell
    refine Worked.ite (fun _ => .refl inv.1) fun _ => ?_
    have noted : Worked State.settledInv everyChan t { t with requests := { t.requests with lastTaken := r.seq } } :=
      ((Acts.aside {}).worked inv.1).settled inv.2
    have decided := (noted.trans (Worked.dispatch noted.inv code r))
    exact decided.andThen fun _ => (Acts.complete _ _).worked decided.inv
  have accessed := ((Acts.access s .requestRead).worked (q := everyChan) inv.1).settled inv.2
  unfold State.sample
  generalize s.access .requestRead = p at accessed ⊢
  obtain ⟨_ | w, t⟩ := p
  · exact accessed.trans (taken t accessed.inv _ _)
  · exact accessed.trans ((Acts.busErrorMet t).worked accessed.inv.1)

theorem Worked.attention (inv : s.claimInv) : Worked State.claimInv everyChan s s.attention := by
  have settled := Worked.settle inv
  unfold State.attention
  refine Worked.ite (fun _ => .refl inv) fun _ => ?_
  exact settled.andThenTo (fun _ => settled.inv.1) fun _ => Worked.sample settled.inv

theorem State.request_claimInv (inv : s.claimInv) (code : BitVec 8) (r : RequestArgs) : (s.request code r).claimInv := by
  have placed : Acts s (s.placeCell code r) := .aside ((s.placeCell_frame code r).toLogFrame.toAside (by
    rw [State.placeCell_eq]
    exact id))
  exact (Worked.attention (placed.settled.still.claimInv inv)).inv

/-! ### Frames and installs -/

/-- Outside RUNNING and HALTED nothing is owed or asked, and a start finds the law as it stands. -/
theorem Worked.woken {t : State} (inv : s.claimInv) (live : s.regs.device ≠ .halted) (still : s.regs.device ≠ .running)
    (mode : ∀ c, (t.chan c).mode = (s.chan c).mode) (tracked : ∀ c, (t.chan c).tracked = (s.chan c).tracked)
    (claims : t.claims = s.claims) (work : t.work = s.work) : t.restInv := by
  obtain ⟨law, track, works⟩ := s.claimInv_iff.mp inv
  have rest : ∀ c, t.restful c := by
    intro c
    obtain ⟨owed, asks, -⟩ := (works c).resolve_left live
    rw [State.restful, work, claims]
    exact .inr ⟨by_contra fun owes => still (owed owes).1, by_contra fun asking => still (asks asking).1⟩
  refine ⟨(State.claimInv_iff t).mpr ⟨by rwa [claims], fun c => ?_, fun c => (rest c).work⟩, rest⟩
  have law := (s.trackLaw_iff c).mp (track c)
  rw [State.trackLaw_iff, Channel.tracks, mode, tracked, claims]
  refine ⟨fun tracks => ?_, law.2⟩
  obtain ⟨e, element, held⟩ := law.1 tracks
  exact ⟨e, element, .inl (held.resolve_right fun ⟨halted, _⟩ => live halted)⟩

theorem Still.openFrame (s : State) : Still s s.openFrame := by
  have opened : ∀ c, (s.openFrame.chan c).mode = (s.chan c).mode ∧ (s.openFrame.chan c).tracked = (s.chan c).tracked := by
    intro c
    obtain ⟨e, opens, -⟩ := (s.chan c).opened_eq
    rw [s.chan_openFrame, opens]
    exact ⟨rfl, rfl⟩
  exact { mode := fun c => (opened c).1, tracked := fun c => (opened c).2 }

theorem Still.swap (s : State) (l : Loader) : Still s (s.swap l) := by
  obtain ⟨m, f, o, swapped⟩ := s.swap_eq l
  rw [swapped]
  exact {}

theorem Worked.install (inv : s.restInv) (live : s.regs.device ≠ .halted) (start : Bool) :
    Worked State.claimInv everyChan s (s.install start) := by
  obtain ⟨law, rest⟩ := inv
  have reported : Worked State.claimInv everyChan s (s.eachChan (State.installReport (s.loader.installAll s.beam.frame))) :=
    Worked.eachChan law live fun c t h _ => (Acts.installReport _ t c).worked h.inv
  have swapped := reported.andThen
    (f := fun t => ((t.installDisarm (s.loader.installAll s.beam.frame) .a).installDisarm (s.loader.installAll s.beam.frame) .b).swapTables
      (s.loader.installAll s.beam.frame)) fun _ => (Still.swap _ _).workedInv reported.inv
  have locked := swapped.andThen (f := fun t => if start then t.startLocks else t) fun _ =>
    Worked.ite (fun _ => (Acts.aside {}).worked swapped.inv) fun _ => .refl swapped.inv
  have configured := locked.andThen (f := fun t => if (s.loader.installAll s.beam.frame).outcome.installed.config then
      t.installConfig s.config else t) fun live =>
    Worked.ite (fun _ => Worked.installConfig (locked.rests rest).inv live s.config) fun _ => .refl locked.inv
  have told : ∀ t : State, t.claimInv → Worked State.claimInv everyChan t
      ((t.setOutcome (s.loader.installAll s.beam.frame).outcome).writeStatus.2.andThen fun u =>
        u.onRegs fun g => { g with causes := { g.causes with load := true } }) := by
    intro t inv
    have acts : Acts t ((t.setOutcome (s.loader.installAll s.beam.frame).outcome).writeStatus.2.andThen fun u =>
        u.onRegs fun g => { g with causes := { g.causes with load := true } }) :=
      ((Acts.aside {}).trans (Acts.writeStatus _)).andThen fun _ => .aside (State.onRegs_aside rfl rfl)
    exact acts.worked inv
  unfold State.install
  refine Worked.ite (fun _ => .refl law) fun _ => ?_
  exact configured.andThen fun _ => told _ configured.inv

theorem Worked.afterInstalls (inv : s.settledInv) : Worked State.claimInv everyChan s s.afterInstalls := by
  have looked : Acts s (s.chooseBoth.lookAll State.lookRunning) := (Acts.chooseBoth s).trans (Acts.lookAll Acts.lookRunning)
  have seen := (looked.worked (q := everyChan) inv.1).settled inv.2
  have sampled := seen.andThenTo (f := State.sample) (fun _ => seen.inv.1) fun _ => Worked.sample seen.inv
  exact sampled.andThen fun _ => (Acts.drain _).worked sampled.inv

/-- A frame opened, the installs, and what follows them. -/
theorem Worked.openAndInstall (inv : s.restInv) (live : s.regs.device ≠ .halted) (start : Bool) :
    (s.install start |>.andThen State.afterInstalls).claimInv := by
  have installed := Worked.install inv live start
  exact (installed.andThen fun _ => Worked.afterInstalls (installed.settled fun c => (inv.2 c).unowed).inv).inv

theorem State.startFrame_claimInv (inv : s.restInv) (running : s.regs.device = .running) : s.startFrame.claimInv := by
  have live : s.regs.device ≠ .halted := by simp [running]
  have closed : (if s.beam.isOpen then s.closeWhole else s).restInv := by
    split
    · have shut := State.closeFrame_claimInv running inv.1
      unfold State.closeWhole
      by_cases halted : s.closeFrame.regs.device = .halted
      · rw [State.andThen_halted _ halted]
        exact ⟨shut, fun _ => .inl halted⟩
      · rw [State.andThen_live _ halted]
        exact (Worked.settleAll shut).inv
    · exact inv
  have opened : Worked State.claimInv everyChan (if s.beam.isOpen then s.closeWhole else s)
      ((if s.beam.isOpen then s.closeWhole else s).andThen State.openFrame) :=
    (Worked.refl closed.1).andThen fun _ => (Still.openFrame _).workedInv closed.1
  have rested := (opened.rests closed.2).inv
  have installed := opened.andThen (f := fun t => t.install false) fun live => Worked.install rested live false
  exact (installed.andThen fun _ => Worked.afterInstalls
    (installed.settled fun c => (closed.2 c).unowed).inv).inv

theorem State.start_claimInv (inv : s.claimInv) (loading : s.regs.device = .loading) : s.start.claimInv := by
  have opened := Still.openFrame (s.onRegs fun g => { g with device := .running })
  have woken := Worked.woken (t := (s.onRegs fun g => { g with device := .running }).openFrame) inv (by simp [loading])
    (by simp [loading]) opened.mode opened.tracked rfl rfl
  exact Worked.openAndInstall woken nofun true

theorem State.paceLoading_claimInv (inv : s.claimInv) (loading : s.regs.device = .loading) : s.paceLoading.claimInv := by
  have looked := (Acts.lookAll (s := s) Acts.lookLoading).settled.still
  have law := looked.claimInv inv
  unfold State.paceLoading
  by_cases halted : (s.lookAll State.lookLoading).regs.device = .halted
  · rwa [State.andThen_halted _ halted]
  · rw [State.andThen_live _ halted]
    split
    · exact State.start_claimInv law ((looked.device.resolve_right halted).trans loading)
    · exact law

/-! ### Resets -/

theorem Reset.claimInv {t : State} (h : Reset s t) : t.claimInv := by
  have rest : ∀ c, t.restful c := fun c => .inr (by rw [h.work, h.claims]; cases c <;> exact ⟨rfl, rfl⟩)
  refine (State.claimInv_iff t).mpr ⟨by rw [h.claims]; exact ⟨Nat.zero_le _, .nil⟩, fun c => ?_, fun c => (rest c).work⟩
  refine State.trackLaw_idle ?_ (by rw [h.claims]; rfl)
  rw [h.chan c]
  exact not_tracks_of_mode (m := .off) rfl nofun nofun

theorem State.beginStart_claimInv (inv : s.claimInv) (stopped : s.regs.device = .stopped) : s.beginStart.claimInv := by
  have read : Acts s ((s.onRegs fun g => { g with faultKind := .none }).access .formatRead).2 :=
    (Acts.aside (State.onRegs_aside rfl rfl)).trans (Acts.access _ _)
  have device : ((s.onRegs fun g => { g with faultKind := .none }).access .formatRead).2.regs.device = .stopped := by
    rw [State.access_eq]
    exact stopped
  have law := read.settled.still.claimInv inv
  unfold State.beginStart
  generalize (s.onRegs fun g => { g with faultKind := .none }).access .formatRead = p at law device ⊢
  obtain ⟨_ | _, t⟩ := p
  · dsimp only at device law ⊢
    split
    · exact (Worked.woken (t := t.onRegs fun g => { g with device := .loading }) law (by simp [device]) (by simp [device]) (fun _ => rfl) (fun _ => rfl) rfl rfl).1
    · exact (Acts.halt t _).settled.still.claimInv law
  · exact (Acts.halt t _).settled.still.claimInv law

theorem State.writeControl_claimInv (inv : s.claimInv) (v : Word) : (s.writeControl v).claimInv := by
  have taken : Still s (s.onRegs fun g => { g with run := v.getLsbD 0, enables := Causes.ofWord v }) := {}
  have law := taken.claimInv inv
  unfold State.writeControl
  split
  · exact s.softResetValues_reset.claimInv
  · unfold State.takeControl
    dsimp only
    split
    · split
      next stopped => exact State.beginStart_claimInv law stopped
      next => exact law
    · split
      · exact law
      · exact (State.stopValues_reset _).claimInv

/-! ### Every command -/

theorem Still.meetEcho (s : State) (c : Chan) (t : Nat) : Still s (s.meetEcho c t) := by
  have met : Still s { s.onChan c (fun x => { x with echo := .none }) with beam := { s.beam with clock := max s.beam.clock t } } :=
    { mode := s.setChan_keeps Channel.mode rfl, tracked := s.setChan_keeps Channel.tracked rfl }
  exact met.trans (Acts.meetStrike _ c t true).settled.still

theorem Still.deliverEcho (s : State) (c : Chan) : Still s (s.deliverEcho c) := by
  unfold State.deliverEcho
  split
  · split
    · exact {}
    · unfold State.echoBefore
      split
      · exact Still.meetEcho s c _
      · split
        · exact (Still.meetEcho s _ _).trans (Still.meetEcho _ c _)
        · exact Still.meetEcho s c _
  · exact {}

theorem Still.saturate (s : State) : Still s s.saturate := by
  have held : ∀ t : State, Still t { t with beam := { t.beam with clock := Config.clockMax } } := fun _ => {}
  unfold State.saturate
  split
  · exact ((Still.deliverEcho s _).trans (Still.deliverEcho _ _)).trans (held _)
  · exact {}

theorem Still.endVector (s : State) : Still s s.endVector :=
  { mode := fun c => by rw [State.chan_endVector], tracked := fun c => by rw [State.chan_endVector] }

theorem Still.beginVector (s : State) (v : VectorNote) : Still s (s.beginVector v) :=
  { mode := fun c => by rw [State.chan_beginVector, State.chan_endVector]
    tracked := fun c => by rw [State.chan_beginVector, State.chan_endVector] }

/-- After the rest of a frame end, a command goes on in RUNNING with every channel at rest. -/
theorem State.settleAll_claimInv (inv : s.claimInv) {f : State → State}
    (h : ∀ t : State, t.restInv → t.regs.device = s.regs.device → (f t).claimInv) : (s.settleAll.andThen f).claimInv := by
  have settled := Worked.settleAll inv
  by_cases halted : s.settleAll.regs.device = .halted
  · rw [State.andThen_halted _ halted]
    exact settled.inv.1
  · rw [State.andThen_live _ halted]
    exact h _ settled.inv (settled.live halted)

theorem State.stepOwed_claimInv (inv : s.claimInv) (o : Owed) : (s.stepOwed c o).claimInv := by
  unfold State.stepOwed
  split
  next acts =>
    have done := Worked.doOwed (c := c) inv (by simp [acts.1])
    exact (done.andThenTo (Q := State.claimInv) (fun _ => done.inv.1) fun _ => Worked.finishFrame done.inv.1).inv
  next => exact inv

theorem State.stepExpiry_claimInv (inv : s.claimInv) : (s.stepExpiry c).claimInv := by
  unfold State.stepExpiry
  split
  next acts =>
    have done := (Worked.doOwed (c := c) inv (by simp [acts.1])).imp And.left
    have expired := done.andThen (f := fun t => t.doExpiry c) fun _ => Worked.doExpiry done.inv
    exact (expired.andThen fun _ => Worked.finishFrame expired.inv).inv
  next => exact inv

theorem State.stepPeriod_claimInv (inv : s.claimInv) : s.stepPeriod.claimInv := by
  unfold State.stepPeriod
  split
  · exact (Worked.finishFrame ((Acts.doPeriod s).settled.still.claimInv inv)).inv
  · exact inv

theorem exec_claimInv (i : Instr) (inv : s.claimInv) : ∃ t, exec i s = .next t ∧ t.claimInv := by
  have still : ∀ {t u : State}, Still t u → t.claimInv → u.claimInv := fun h => h.claimInv
  have acts : ∀ {t : State}, Acts s t → t.claimInv := fun h => h.settled.still.claimInv inv
  have request : ∀ code r, (s.request code r).claimInv := State.request_claimInv inv
  cases i with
  | frameStart =>
    refine ⟨_, rfl, ?_⟩
    split
    next running => exact State.settleAll_claimInv inv fun t rest same => State.startFrame_claimInv rest (same.trans running)
    next loading => exact State.paceLoading_claimInv inv loading
    · exact inv
    · exact inv
  | vectorBegin v =>
    refine ⟨_, rfl, State.settleAll_claimInv inv fun t rest _ => ?_⟩
    split
    · exact still (Still.beginVector t v) rest.1
    · exact rest.1
  | vectorEnd =>
    refine ⟨_, rfl, State.settleAll_claimInv inv fun t rest _ => ?_⟩
    split
    · exact still (Still.endVector t) rest.1
    · exact rest.1
  | frameEnd =>
    refine ⟨_, rfl, State.settleAll_claimInv inv fun t rest _ => ?_⟩
    split
    next isOpen => exact State.closeFrame_claimInv (t.frameOpen_iff.mp isOpen).1 rest.1
    next => exact rest.1
  | frameClockSaturation => exact ⟨_, rfl, still (Still.saturate s) inv⟩
  | strike c => exact ⟨_, rfl, acts (Acts.strikeEdge s c)⟩
  | lineLeavesActiveLevel c => exact ⟨_, rfl, (Worked.lineLeaves inv).inv⟩
  | glareOnset c =>
    refine ⟨_, rfl, ?_⟩
    split
    · exact State.settleAll_claimInv inv fun t rest _ => (Worked.glareBegins rest.1 (rest.2 c)).inv
    · exact inv
  | glareReminder c => exact ⟨_, rfl, State.stepOwed_claimInv inv _⟩
  | echoDelivery c => exact ⟨_, rfl, still (Still.deliverEcho s c) inv⟩
  | switchInputChange i pressed =>
    exact ⟨_, rfl, (Worked.rawChange (Worked.settle inv).inv i pressed).inv.1⟩
  | debounceCompletion i =>
    have settled := Worked.settle inv
    exact ⟨_, rfl, (settled.andThen fun _ => Worked.ite (fun _ => Worked.completeDebounce settled.inv i) fun _ => .refl settled.inv).inv.1⟩
  | idleTimeout =>
    refine ⟨_, rfl, ?_⟩
    split
    · exact acts (.aside {})
    · exact inv
  | miss c => exact ⟨_, rfl, State.stepOwed_claimInv inv _⟩
  | askDecision => exact ⟨_, rfl, (Worked.stepAsks inv).inv.1⟩
  | lost c => exact ⟨_, rfl, State.stepOwed_claimInv inv _⟩
  | tooFew c => exact ⟨_, rfl, State.stepOwed_claimInv inv _⟩
  | confirmExpiry c => exact ⟨_, rfl, State.stepExpiry_claimInv inv⟩
  | blinkPeriodEnd => exact ⟨_, rfl, State.stepPeriod_claimInv inv⟩
  | readEnd t => exact ⟨_, rfl, acts (Acts.ite (fun _ => Acts.endRead s t) fun _ => .refl)⟩
  | lockGroup r => exact ⟨_, rfl, request 1 r⟩
  | unlockGroup r => exact ⟨_, rfl, request 2 r⟩
  | lockAll r => exact ⟨_, rfl, request 3 r⟩
  | unlockAll r => exact ⟨_, rfl, request 4 r⟩
  | claim r => exact ⟨_, rfl, request 5 r⟩
  | release r => exact ⟨_, rfl, request 6 r⟩
  | suspendTrack r => exact ⟨_, rfl, request 7 r⟩
  | resumeTrack r => exact ⟨_, rfl, request 8 r⟩
  | calibrate r => exact ⟨_, rfl, request 9 r⟩
  | cancelCalibration r => exact ⟨_, rfl, request 10 r⟩
  | openSheet r => exact ⟨_, rfl, request 11 r⟩
  | homeMenu r => exact ⟨_, rfl, request 12 r⟩
  | collect r => exact ⟨_, rfl, request 13 r⟩
  | endCollection r => exact ⟨_, rfl, request 14 r⟩
  | injectStrike r => exact ⟨_, rfl, request 15 r⟩
  | unknownRequest code r => exact ⟨_, rfl, request code r⟩
  | attentionWrite => exact ⟨_, rfl, (Worked.attention inv).inv⟩
  | runSet v => exact ⟨_, rfl, State.writeControl_claimInv inv v⟩
  | stop v => exact ⟨_, rfl, State.writeControl_claimInv inv v⟩
  | softReset v => exact ⟨_, rfl, State.writeControl_claimInv inv v⟩
  | interruptEnablesWrite v => exact ⟨_, rfl, State.writeControl_claimInv inv v⟩
  | statusWrite v => exact ⟨_, rfl, acts (.aside (State.onRegs_aside rfl rfl))⟩
  | areaBaseWrite v =>
    refine ⟨_, rfl, ?_⟩
    split
    · exact still (t := s) {} inv
    · exact inv
  | powerOnReset => exact ⟨_, rfl, s.powerOnValues_reset.claimInv⟩
  | busError e =>
    have met : Acts s (s.abandonRead (accessTable e.access)).busErrorMet := (Acts.abandonRead s _).trans (Acts.busErrorMet _)
    refine ⟨_, rfl, acts (Acts.ite (fun _ => ?_) fun _ => .aside {})⟩
    unfold State.busErrorNow
    split
    · exact met
    · exact met
    · exact Acts.ite (fun _ => Acts.busErrorMet s) fun _ => .refl
    · exact .refl

theorem State.tick_claimInv (inv : s.claimInv) : s.tick.claimInv := by
  have frame := s.tick_frame
  have ticked : Still s s.tick :=
    { mode := fun c => by rw [s.chan_tick c], tracked := fun c => by rw [s.chan_tick c], entries := by rw [frame]
      asks := by rw [frame], owed := by rw [frame], active := by rw [frame], device := .inl (by rw [frame]) }
  exact ticked.claimInv inv

theorem step_claimInv (inv : s.claimInv) : ∃ t, step s = .next t ∧ t.claimInv := by
  have first : ∀ i (u : State), Aside s u → ∃ t, exec i u = .next t ∧ t.claimInv :=
    fun i u aside => exec_claimInv i (aside.settled.still.claimInv inv)
  have arrives : ∀ (u : State) x, Aside s u → (u.arrive x).claimInv :=
    fun u x aside => ((Acts.aside aside).trans (Acts.arrive u x)).settled.still.claimInv inv
  unfold step
  split
  · exact first _ _ {}
  · unfold State.idleStep
    dsimp only
    split
    · exact ⟨_, rfl, State.tick_claimInv inv⟩
    · exact first _ _ {}
    · exact ⟨_, rfl, arrives _ _ {}⟩
    · split
      · exact ⟨_, rfl, arrives _ _ {}⟩
      · exact first _ _ {}

/-- Settles O9: a channel leaves TRACKING or SUSPENDED with its claim gone and nothing owed or asked, and it enters TRACKING with the
claim that its ask was granted. -/
theorem stepKeepsClaimLaw : Obligations.StepKeepsClaimLaw := by
  unfold Obligations.StepKeepsClaimLaw
  intro s t inv ran
  obtain ⟨u, stepped, law⟩ := step_claimInv inv
  rw [stepped] at ran
  cases ran
  exact law

end

end Sys2Proof.Machine

/-! The step, the values and the laws at reset, the registers, and the conversions that need no state. -/

namespace Sys2Proof.Machine

/-! ### The step and reset -/

/-- Settles O1: the definition of a step on a queue that is not empty. -/
theorem stepRunsFrontCommand : Obligations.StepRunsFrontCommand := by
  unfold Obligations.StepRunsFrontCommand
  intro s c rest queue
  rw [step, queue]

theorem State.beam_tick_running {s : State} (running : s.regs.device = .running) (isOpen : s.beam.isOpen = true) :
    s.tick.beam = { s.beam with clock := min (s.beam.clock + 1) 16777215 } := by
  simp [State.tick, State.blocksTick, Beam.tick, running, isOpen, Config.clockMax]

theorem State.beam_tick_still {s : State} (still : s.regs.device ≠ .running ∨ s.beam.isOpen = false) : s.tick.beam = s.beam := by
  by_cases halted : s.regs.device = .halted
  · simp [State.tick, halted]
  · rcases still with stopped | closed
    · simp [State.tick, State.blocksTick, halted, stopped]
    · simp [State.tick, State.blocksTick, Beam.tick, halted, closed]

/-- Settles O2: with no command, no arrival and no event, the step is the tick. -/
theorem stepTicksWhenIdle : Obligations.StepTicksWhenIdle := by
  unfold Obligations.StepTicksWhenIdle
  intro s queue outside due
  have frame := s.tick_frame
  have ticks : step s = .next s.tick := by
    rw [step, queue]
    simp only [State.idleStep, outside, arrived, due]
  refine ⟨s.tick, ticks, rfl, State.beam_tick_running, State.beam_tick_still, ?_⟩
  rw [frame]
  exact ⟨queue, rfl, rfl, rfl, rfl, rfl, rfl, rfl, rfl⟩

/-- Settles O3: the reset state, field by field. -/
theorem resetValues : Obligations.ResetValues := by
  unfold Obligations.ResetValues
  have chan : ∀ c, State.reset.chan c = Channel.reset := fun c => by cases c <;> rfl
  have menu : ∀ c, State.reset.menu c = Menu.reset := fun c => by cases c <;> rfl
  refine ⟨rfl, rfl, fun c => by rw [chan]; rfl, fun c g => ?_, rfl, fun c => by rw [menu]; rfl, fun n => ?_, rfl, rfl, rfl, rfl, rfl,
    rfl, rfl, rfl, ⟨rfl, rfl, rfl, rfl, rfl, rfl⟩, rfl, rfl, fun c => ?_⟩
  · have locks : State.reset.locks.get c = Vector.replicate 61 false := by cases c <;> rfl
    rw [State.locked, locks, Vector.getElem?_replicate]
    split
    · rfl
    · rfl
  · have input : State.reset.inputs.get n = ⟨false, false, none⟩ := Vector.getElem_replicate n.isLt
    rw [input]
    exact ⟨rfl, rfl⟩
  · cases c
    · exact ⟨rfl, rfl, rfl⟩
    · exact ⟨rfl, rfl, rfl⟩

/-- Settles O4: at reset there is nothing that a law could find out of order. -/
theorem lawsHoldAtReset : Obligations.LawsHoldAtReset := by
  unfold Obligations.LawsHoldAtReset
  have reset : Reset State.reset State.reset :=
    { closed := rfl, chan := fun c => by cases c <;> rfl, menus := rfl, claims := rfl, loader := rfl, log := .inl rfl, work := rfl
      mem := rfl, device := rfl, areaBase := .inl rfl }
  have chan : ∀ c, State.reset.chan c = Channel.reset := fun c => by cases c <;> rfl
  refine ⟨by simp [State.reset, Memory.wf], rfl, (State.trailInv_iff _).mpr ⟨Beam.law_empty rfl rfl, fun c => ?_⟩,
    (State.strikeInv_iff _).mpr ⟨fun c => ?_, fun _ c => ?_, fun _ => rfl⟩, ?_, reset.claimInv, (State.menuInv_iff _).mpr ⟨fun c => ?_,
    ?_, fun t => ?_⟩, (State.delayInv_iff _).mpr ⟨fun c => ?_, ⟨Nat.zero_le _, Nat.zero_le _⟩, fun t => ?_⟩, fun c => ?_⟩
  · rw [chan]
    exact trivial
  · rw [chan]
    exact ⟨Nat.zero_le _, Nat.zero_le _⟩
  · rw [chan]
    rfl
  · exact ⟨by decide, by decide, fun _ => ⟨Nat.zero_le _, Nat.zero_le _⟩⟩
  · cases c <;> exact ⟨⟨rfl, by decide⟩, trivial, by decide⟩
  · exact ⟨nofun, fun sh member b inside => by simp [List.mem_singleton.mp member] at inside⟩
  · cases t <;> exact ⟨fun _ => trivial, fun _ => trivial⟩
  · rw [chan]
    exact ⟨Nat.zero_le _, nofun⟩
  · cases t <;> exact trivial
  · rw [State.collectInv, chan]
    exact ⟨tableLaw_nil, trivial, .inr nofun⟩

/-! ### The candidates of a strike and the loft point -/

theorem candidate_of_ended {w : Nat} {k : Strike} {e : Entry} {f : Nat} (ended : e.ended = some f) :
    candidate w k e = if e.begun ≤ k.h ∧ (offsetAndTime k.tc e.begun f).1 ≤ w
      then some (e, f, (offsetAndTime k.tc e.begun f).1, (offsetAndTime k.tc e.begun f).2) else none := by
  simp only [candidate, ended]

/-- Settles O26: the three cases of the offset, and an entry begun after the window end. -/
theorem candidatesByOffset : Obligations.CandidatesByOffset := by
  unfold Obligations.CandidatesByOffset
  intro w k e f ended order
  rw [candidate_of_ended ended]
  refine ⟨fun examined before within => ?_, fun examined early => ?_, fun examined late after => ?_, fun unexamined => ?_⟩
  · have offset : offsetAndTime k.tc e.begun f = (0, k.tc) := by simp [offsetAndTime, Nat.not_lt.mpr before, within]
    simp [offset, examined]
  · have offset : offsetAndTime k.tc e.begun f = (e.begun - k.tc, e.begun) := by simp [offsetAndTime, early]
    simp only [offset, examined, true_and]
  · have offset : offsetAndTime k.tc e.begun f = (k.tc - f + 1, f) := by
      simp [offsetAndTime, Nat.not_lt.mpr after, Nat.not_lt.mpr late]
    simp only [offset, examined, true_and]
  · simp [Nat.not_le.mpr unexamined]

theorem clampInt_eq {lo hi : Int} (v : Int) (order : lo ≤ hi) : clampInt lo hi v = max lo (min v hi) := by
  unfold clampInt
  split
  · omega
  · split
    · omega
    · omega

/-- Settles O29: each axis is rounded by itself, moved by its origin and then clamped. -/
theorem loftConversion : Obligations.LoftConversion := by
  unfold Obligations.LoftConversion
  intro w p scaleX scaleY
  refine ⟨_, _, isRounded_roundDiv _ (by decide), isRounded_roundDiv _ (by decide), ?_⟩
  rw [throughView, if_neg (not_or.mpr ⟨scaleX, scaleY⟩), loftAxis, loftAxis, clampInt_eq _ (by decide), clampInt_eq _ (by decide)]
  rfl

/-! ### The frame clock, a raw input and the idle timeout -/

theorem State.deliverEcho_none {s : State} {c : Chan} (none : ∀ n, (s.chan c).echo ≠ .due n) : s.deliverEcho c = s := by
  have undue : (s.chan c).echo.dueTime = Option.none := by
    cases echo : (s.chan c).echo with
    | none => rfl
    | scheduled t => rfl
    | due t => exact absurd echo (none t)
  simp [State.deliverEcho, undue]

/-- Settles O18: with no echo due the clock is all that moves. -/
theorem frameClockSaturates : Obligations.FrameClockSaturates := by
  unfold Obligations.FrameClockSaturates
  intro s running isOpen none
  change Host.Outcome.next s.saturate = _
  have delivered : ∀ c, s.deliverEcho c = s := fun c => State.deliverEcho_none (none c)
  simp only [State.saturate, running, isOpen, and_self, if_true, delivered]
  rfl

/-- Settles O41: the raw level is noted with its timer, and a completion outside RUNNING goes no further than the input. -/
theorem switchInputsAreDebounced : Obligations.SwitchInputsAreDebounced := by
  unfold Obligations.SwitchInputsAreDebounced
  intro s n p live quiet
  have settled := State.settle_quiet quiet
  refine ⟨fun moves debounced => ?_, fun idle timed => ?_⟩
  · change Host.Outcome.next (s.settle.rawChange n p) = _
    rw [settled, State.rawChange, if_neg live, if_neg moves]
    by_cases back : p = (s.inputs.get n).level
    · simp [back]
    · simp [back, Nat.ne_of_gt debounced]
  · change Host.Outcome.next (s.settle.andThen _) = _
    rw [settled, State.andThen_live _ live, if_pos (Option.isSome_iff_ne_none.mpr timed), State.completeDebounce, if_neg idle]

/-- Settles O44: an idle time that is not 0 puts an AWAKE monitor in DIM. -/
theorem idleTimeoutDims : Obligations.IdleTimeoutDims := by
  unfold Obligations.IdleTimeoutDims
  intro s running awake timed
  have dims : exec .idleTimeout s = .next { s with idle := ⟨true, s.idleTime⟩ } :=
    congrArg Host.Outcome.next (if_pos ⟨running, awake, by simpa [State.idleTime] using timed⟩)
  exact ⟨_, dims, rfl, rfl⟩

/-! ### The registers -/

theorem areaBaseOf_toNat (v : Word) : (areaBaseOf v).toNat = v.toNat / 4096 * 4096 := by
  have mask : ∀ i : Fin 32, BitVec.getLsbD (0xFFFFF000 : Word) i = decide (12 ≤ i.val) := by decide
  have shifted : areaBaseOf v = (v >>> 12) <<< 12 := by
    refine BitVec.eq_of_getLsbD_eq fun i small => ?_
    have bit := mask ⟨i, small⟩
    rw [areaBaseOf, BitVec.getLsbD_and, bit, BitVec.getLsbD_shiftLeft, BitVec.getLsbD_ushiftRight]
    by_cases high : 12 ≤ i
    · simp [high, small, Nat.not_lt.mpr high]
    · simp [high, Nat.lt_of_not_le high]
  have range := v.isLt
  rw [shifted, BitVec.toNat_shiftLeft, BitVec.toNat_ushiftRight, Nat.shiftLeft_eq, Nat.shiftRight_eq_div_pow]
  omega

/-- A bit of a number below 2 to the 32 as its digit. -/
theorem getLsbD_ofNat_of_digit {x i : Nat} {b : Bool} (small : i < 32) (digit : x / 2 ^ i % 2 = b.toNat) :
    (BitVec.ofNat 32 x).getLsbD i = b := by
  rw [BitVec.getLsbD_ofNat, Nat.testBit_eq_decide_div_mod_eq, digit]
  cases b <;> simp [small]

/-- Settles O58: the writes of STATUS and AREA BASE, and each field of what the registers read as. -/
theorem statusAndAreaBaseWrites : Obligations.StatusAndAreaBaseWrites := by
  unfold Obligations.StatusAndAreaBaseWrites
  refine ⟨fun s v => ⟨rfl, fun stopped => ?_, fun other => ?_⟩, fun s => ⟨rfl, rfl, ⟨_, rfl, ?_⟩, ⟨_, rfl, ?_⟩, ?_⟩⟩
  · refine ⟨_, congrArg Host.Outcome.next (if_pos stopped), areaBaseOf_toNat v, rfl⟩
  · exact congrArg Host.Outcome.next (if_neg other)
  · have run := s.regs.run.toNat_le
    have log := s.regs.enables.log.toNat_le
    have request := s.regs.enables.request.toNat_le
    have load := s.regs.enables.load.toNat_le
    have fault := s.regs.enables.fault.toNat_le
    rw [Registers.controlValue, Causes.value]
    refine ⟨?_, ?_, ?_, ?_, ?_, ?_⟩
    case refine_2 => exact getLsbD_ofNat_of_digit (b := false) (by decide) (by simp only [Bool.toNat_false]; omega)
    all_goals exact getLsbD_ofNat_of_digit (by decide) (by omega)
  · have device : s.regs.device.code < 4 ∧ s.regs.faultKind.code < 3 :=
      ⟨by cases s.regs.device <;> decide, by cases s.regs.faultKind <;> decide⟩
    obtain ⟨device, kind⟩ := device
    have log := s.regs.causes.log.toNat_le
    have request := s.regs.causes.request.toNat_le
    have load := s.regs.causes.load.toNat_le
    have fault := s.regs.causes.fault.toNat_le
    have a := s.regs.lost.a.toNat_le
    have b := s.regs.lost.b.toNat_le
    have console := s.regs.lost.console.toNat_le
    rw [Registers.statusValue, Causes.value, Lost.value]
    refine ⟨?_, ?_, ?_⟩
    · refine Eq.trans (b := s.regs.device.code) ?_ (by cases s.regs.device <;> rfl)
      rw [BitVec.toNat_ofNat]
      omega
    · refine Eq.trans (b := s.regs.faultKind.code) ?_ (by cases s.regs.faultKind <;> rfl)
      rw [BitVec.toNat_ofNat]
      omega
    · refine ⟨?_, ?_, ?_, ?_, ?_, ?_, ?_⟩
      all_goals exact getLsbD_ofNat_of_digit (by decide) (by omega)
  · change s.regs.causes.anyEnabled s.regs.enables = true ↔ _
    simp only [Causes.anyEnabled, Bool.or_eq_true, Bool.and_eq_true, or_assoc]

end Sys2Proof.Machine

/-! Strikes: what the Idle Monitor makes of one, how a channel takes it, and an echo that falls due. -/

namespace Sys2Proof.Machine

/-! ### The Idle Monitor -/

/-- Whether the Idle Monitor passes an event of a kind on. -/
def State.passes (s : State) (k : IdleKind) : Bool := !s.idle.dim || (s.config.gate k).report

/-- The Idle Monitor after an event of a kind. -/
def State.wakened (s : State) (k : IdleKind) : Idle :=
  if s.idle.dim = true ∧ (s.config.gate k).wake = false then s.idle else ⟨false, 0⟩

theorem State.present_eq (s : State) (k : IdleKind) : s.present k = (s.passes k, { s with idle := s.wakened k }) := by
  unfold State.present State.passes State.wakened
  cases dim : s.idle.dim with
  | false => simp
  | true => cases wake : (s.config.gate k).wake <;> simp [wake]

theorem State.passes_awake {s : State} (k : IdleKind) (awake : s.idle.dim = false) : s.passes k = true := by
  simp [State.passes, awake]

theorem State.wakened_awake {s : State} (k : IdleKind) (awake : s.idle.dim = false) : s.wakened k = ⟨false, 0⟩ := by
  simp [State.wakened, awake]

/-! ### One channel's updates -/

theorem State.onChan_onChan (s : State) (c : Chan) (f g : Channel → Channel) :
    (s.onChan c f).onChan c g = s.onChan c fun x => g (f x) := by
  cases c <;> rfl

/-- A verdict reads no more of a state than this. -/
theorem State.resolve_congr {s t : State} {c : Chan} (k : Strike) (trail : t.beam.trail = s.beam.trail)
    (dropped : t.beam.dropped = s.beam.dropped) (loader : t.loader = s.loader) (menus : t.menus = s.menus)
    (locks : t.locks = s.locks) (claims : t.claims = s.claims) (mode : (t.chan c).mode = (s.chan c).mode) :
    t.resolve c k = s.resolve c k := by
  have config : t.chanConfig c = s.chanConfig c := by simp only [State.chanConfig, State.config, loader]
  have tables : t.tables = s.tables := congrArg Loader.tables loader
  have top : t.topSheet c = s.topSheet c := by simp only [State.topSheet, State.menu, tables, menus]
  have permitted : ∀ g tag, t.permits t.claims.entries c g tag = s.permits s.claims.entries c g tag := by
    intro g tag
    simp only [State.permits, State.drawingRefused, State.locked, config, tables, top, locks, claims, mode]
  have short : trailShort t.beam (t.chanConfig c).aperture k.tc = trailShort s.beam (s.chanConfig c).aperture k.tc := by
    unfold trailShort
    rw [trail, dropped, config]
  unfold State.resolve
  dsimp only
  rw [short, trail, config, tables]
  simp only [permitted]

/-! ### Meeting a strike -/

/-- A strike that the Idle Monitor holds back, or that the channel does not take, reaches the monitor alone. -/
theorem State.meetStrike_discarded {s : State} {c : Chan} (ts : Nat) (echo : Bool) (running : s.regs.device = .running)
    (on : (s.chan c).mode ≠ .off) (lost : s.passes .strike = false ∨ s.takes c = false) :
    s.meetStrike c ts echo = { s with idle := s.wakened .strike } := by
  have enabled : (s.chan c).mode.enabled = true := bne_iff_ne.mpr on
  rw [State.meetStrike, if_pos ⟨running, enabled⟩, State.present_eq]
  cases passed : s.passes .strike with
  | false => rfl
  | true =>
    have refused : s.takes c = false := lost.resolve_left (by simp [passed])
    exact if_neg (by rw [show State.takes { s with idle := s.wakened .strike } c = s.takes c from rfl, refused]; decide)

/-- A strike that an AWAKE monitor passes and that the channel takes is counted, and then measured or resolved by the mode. -/
theorem State.meetStrike_taken {s : State} {c : Chan} (ts : Nat) (echo : Bool) (running : s.regs.device = .running)
    (on : (s.chan c).mode ≠ .off) (awake : s.idle.dim = false) (taken : s.takes c = true) :
    s.meetStrike c ts echo =
      (let u := ({ s with idle := ⟨false, 0⟩ } : State).onChan c fun x => { x with strikes := x.strikes + 1 }
      if (s.chan c).mode = .calibrating then u.measure c ts echo else u.takeStrike c ts echo) := by
  have enabled : (s.chan c).mode.enabled = true := bne_iff_ne.mpr on
  rw [State.meetStrike, if_pos ⟨running, enabled⟩, State.present_eq, State.passes_awake _ awake, State.wakened_awake _ awake]
  refine (if_pos taken).trans ?_
  cases c <;> rfl

theorem State.takes_iff (s : State) (c : Chan) : s.takes c = true ↔ s.regs.device = .running ∧ s.beam.isOpen = true ∧
    ((s.chan c).mode = .watch ∨ (s.chan c).mode = .pressed ∨ (s.chan c).mode = .calibrating ∨ (s.chan c).mode = .tracking) ∧
    (s.chan c).strikes < 4 := by
  simp only [State.takes, Bool.and_eq_true, Bool.or_eq_true, beq_iff_eq, decide_eq_true_eq, and_assoc, or_assoc]
  exact Iff.rfl

theorem waitsOn_iff (trail : List Entry) (h : Nat) :
    waitsOn trail h = true ↔ ∃ e ∈ trail, e.ended = none ∧ e.begun ≤ h := by
  simp [waitsOn]

/-- Taking a strike changes the results and the pending strikes of the channel, by the three cases of R48 to R50. -/
theorem State.takeStrike_eq (s : State) (c : Chan) (ts : Nat) (echo : Bool) :
    let d := (s.chan c).delay
    let k : Strike := ⟨ts - d, min (ts - d + (s.chanConfig c).aperture) ts, echo⟩
    let waits := ∃ e ∈ s.beam.trail, e.ended = none ∧ e.begun ≤ k.h
    ∃ rs ps, s.takeStrike c ts echo = s.onChan c (fun x => { x with results := rs, pendingStrikes := ps }) ∧
      (ts < d → rs = (s.chan c).results ++ [⟨.blank, echo⟩] ∧ ps = (s.chan c).pendingStrikes) ∧
      (d ≤ ts → waits → rs = (s.chan c).results ∧ ps = (s.chan c).pendingStrikes ++ [k]) ∧
      (d ≤ ts → ¬waits → rs = (s.chan c).results ++ [⟨s.resolve c k, echo⟩] ∧ ps = (s.chan c).pendingStrikes) := by
  intro d k waits
  have held : waitsOn s.beam.trail k.h = true ↔ waits := waitsOn_iff _ _
  by_cases early : ts < d
  · refine ⟨_, _, ?_, fun _ => ⟨rfl, rfl⟩, fun h => absurd early (Nat.not_lt.mpr h), fun h => absurd early (Nat.not_lt.mpr h)⟩
    exact (if_pos early).trans (by cases c <;> rfl)
  · by_cases w : waits
    · refine ⟨_, _, ?_, fun h => absurd h early, fun _ _ => ⟨rfl, rfl⟩, fun _ h => absurd w h⟩
      exact ((if_neg early).trans (if_pos (held.mpr w))).trans (by cases c <;> rfl)
    · refine ⟨_, _, ?_, fun h => absurd h early, fun _ h => absurd h w, fun _ _ => ⟨rfl, rfl⟩⟩
      exact ((if_neg early).trans (if_neg fun h => w (held.mp h))).trans (by cases c <;> rfl)

/-- A strike of an AWAKE part that a channel in WATCH, PRESSED or TRACKING takes. -/
theorem State.meetStrike_resolved {s : State} {c : Chan} (ts : Nat) (echo : Bool) (running : s.regs.device = .running)
    (isOpen : s.beam.isOpen = true)
    (mode : (s.chan c).mode = .watch ∨ (s.chan c).mode = .pressed ∨ (s.chan c).mode = .tracking)
    (awake : s.idle.dim = false) (few : (s.chan c).strikes < 4) :
    let d := (s.chan c).delay
    let k : Strike := ⟨ts - d, min (ts - d + (s.chanConfig c).aperture) ts, echo⟩
    let waits := ∃ e ∈ s.beam.trail, e.ended = none ∧ e.begun ≤ k.h
    ∃ rs ps, s.meetStrike c ts echo = ({ s with idle := ⟨false, 0⟩ } : State).onChan c
        (fun x => { x with strikes := x.strikes + 1, results := rs, pendingStrikes := ps }) ∧
      (ts < d → rs = (s.chan c).results ++ [⟨.blank, echo⟩] ∧ ps = (s.chan c).pendingStrikes) ∧
      (d ≤ ts → waits → rs = (s.chan c).results ∧ ps = (s.chan c).pendingStrikes ++ [k]) ∧
      (d ≤ ts → ¬waits → rs = (s.chan c).results ++ [⟨s.resolve c k, echo⟩] ∧ ps = (s.chan c).pendingStrikes) := by
  intro d k waits
  have on : (s.chan c).mode ≠ .off := by rcases mode with m | m | m <;> simp [m]
  have plain : (s.chan c).mode ≠ .calibrating := by rcases mode with m | m | m <;> simp [m]
  have taken : s.takes c = true := (s.takes_iff c).mpr ⟨running, isOpen, by tauto, few⟩
  have met := State.meetStrike_taken ts echo running on awake taken
  simp only [if_neg plain] at met
  let u := ({ s with idle := ⟨false, 0⟩ } : State).onChan c fun x => { x with strikes := x.strikes + 1 }
  have counted : u.chan c = { s.chan c with strikes := (s.chan c).strikes + 1 } := State.chan_onChan _ c _
  have verdict : u.resolve c k = s.resolve c k :=
    State.resolve_congr k rfl rfl rfl rfl rfl rfl (by rw [counted])
  obtain ⟨rs, ps, effect, early, waiting, done⟩ := u.takeStrike_eq c ts echo
  have strike : (⟨ts - (u.chan c).delay, min (ts - (u.chan c).delay + (u.chanConfig c).aperture) ts, echo⟩ : Strike) = k := by
    rw [counted]; rfl
  rw [strike] at waiting done
  rw [verdict] at done
  rw [counted] at early waiting done
  refine ⟨rs, ps, ?_, early, waiting, done⟩
  rw [met, effect, State.onChan_onChan]

/-! ### The three kinds of strike -/

/-- The channel at the active edge of its line (R21, R25). -/
def Channel.struck (x : Channel) (high : Bool) : Channel :=
  { x with lineHigh := high, glareTimer := if x.mode = .glare then x.glareTimer else some 0 }

/-- A strike of an enabled channel in RUNNING is the edge on its line, and then the strike met at the frame clock. -/
theorem State.strikeEdge_running {s : State} {c : Chan} (running : s.regs.device = .running) (on : (s.chan c).mode ≠ .off) :
    s.strikeEdge c = (s.onChan c fun x => x.struck (s.chanConfig c).edge.activeHigh).meetStrike c s.beam.clock false := by
  have enabled : ((s.onChan c fun x => { x with lineHigh := (s.chanConfig c).edge.activeHigh }).chan c).mode.enabled = true := by
    rw [State.chan_onChan]; exact bne_iff_ne.mpr on
  refine (if_pos ⟨running, enabled⟩).trans ?_
  rw [State.onChan_onChan]
  rfl

/-- Settles O19: the three cases are those of `takeStrike`, on the channel that the edge and the count have changed. -/
theorem strikeIsTaken : Obligations.StrikeIsTaken := by
  unfold Obligations.StrikeIsTaken
  intro s c running isOpen mode awake few d ts k waits
  have on : (s.chan c).mode ≠ .off := by rcases mode with m | m | m <;> simp [m]
  have dark : (s.chan c).mode ≠ .glare := by rcases mode with m | m | m <;> simp [m]
  let u := s.onChan c fun x => x.struck (s.chanConfig c).edge.activeHigh
  have edge : u.chan c = { s.chan c with lineHigh := (s.chanConfig c).edge.activeHigh, glareTimer := some 0 } := by
    rw [State.chan_onChan, Channel.struck, if_neg dark]
  have verdict : u.resolve c k = s.resolve c k := State.resolve_congr k rfl rfl rfl rfl rfl rfl (by rw [edge])
  obtain ⟨rs, ps, effect, early, waiting, done⟩ := State.meetStrike_resolved (s := u) (c := c) ts false running isOpen
    (by rw [edge]; exact mode) awake (by rw [edge]; exact few)
  have strike : (⟨ts - (u.chan c).delay, min (ts - (u.chan c).delay + (u.chanConfig c).aperture) ts, false⟩ : Strike) = k := by
    rw [edge]; rfl
  rw [strike] at waiting done
  rw [verdict] at done
  rw [edge] at early waiting done
  have struck : (u.meetStrike c ts false).chan c =
      { u.chan c with strikes := (u.chan c).strikes + 1, results := rs, pendingStrikes := ps } := by
    rw [effect, State.chan_onChan]; rfl
  rw [edge] at struck
  refine ⟨u.meetStrike c ts false, congrArg Host.Outcome.next (State.strikeEdge_running running on), ?_, ?_, ?_, ?_, ?_, ?_⟩
  · rw [struck]
  · rw [struck]; exact early
  · rw [struck]; exact waiting
  · rw [struck]; exact done
  · rw [effect, State.chan_onChan_other]; cases c <;> rfl
  · rw [effect]; rfl

/-- The dot entry is the newest that qualifies (R37). -/
theorem dotEntry_newest {older newer : List Entry} {e : Entry} {dot ts : Nat} (is : e.tag = dot ∧ e.begun ≤ ts ∧ ts ≤ e.begun + 511)
    (newest : ∀ x ∈ newer, ¬(x.tag = dot ∧ x.begun ≤ ts ∧ ts ≤ x.begun + 511)) :
    dotEntry (older ++ e :: newer) dot ts = some e := by
  have skipped : newer.reverse.find? (fun x => x.tag == dot && decide (x.begun ≤ ts ∧ ts ≤ x.begun + Config.measureReach)) =
      none := by
    rw [List.find?_eq_none]
    intro x mem
    rw [Bool.and_eq_true, beq_iff_eq, decide_eq_true_eq]
    exact newest x (List.mem_reverse.mp mem)
  rw [dotEntry, List.reverse_append, List.reverse_cons, List.append_assoc, List.find?_append, skipped, Option.none_or,
    List.singleton_append, List.find?_cons_of_pos]
  rw [Bool.and_eq_true, beq_iff_eq, decide_eq_true_eq]
  exact is

theorem dotEntry_none {trail : List Entry} {dot ts : Nat}
    (missing : ∀ e ∈ trail, ¬(e.tag = dot ∧ e.begun ≤ ts ∧ ts ≤ e.begun + 511)) : dotEntry trail dot ts = none := by
  rw [dotEntry, List.find?_eq_none]
  intro x mem
  rw [Bool.and_eq_true, beq_iff_eq, decide_eq_true_eq]
  exact missing x (List.mem_reverse.mp mem)

/-- Measuring changes the measurements of the channel and its flag, where the frame has none yet and a dot entry is in reach. -/
theorem State.measure_eq {s : State} {c : Chan} {dot : Nat} (ts : Nat) (echo : Bool) (tag : (s.chan c).dotTag = some dot) :
    ∃ ms was, s.measure c ts echo = s.onChan c (fun x => { x with measures := ms, measured := was }) ∧
      (∀ e, dotEntry s.beam.trail dot ts = some e → (s.chan c).measured = false →
        ms = (s.chan c).measures ++ [⟨ts - e.begun, echo⟩] ∧ was = true) ∧
      (dotEntry s.beam.trail dot ts = none ∨ (s.chan c).measured = true →
        ms = (s.chan c).measures ∧ was = (s.chan c).measured) := by
  have still : s = s.onChan c fun x => { x with measures := (s.chan c).measures, measured := (s.chan c).measured } :=
    (s.setChan_self c).symm
  unfold State.measure
  rw [tag]
  simp only [Option.bind_some]
  cases found : dotEntry s.beam.trail dot ts with
  | none => exact ⟨_, _, still, nofun, fun _ => ⟨rfl, rfl⟩⟩
  | some e =>
    cases measured : (s.chan c).measured with
    | true => exact ⟨_, _, by rw [measured] at still; exact still, fun _ _ => nofun, fun _ => ⟨rfl, rfl⟩⟩
    | false =>
      refine ⟨(s.chan c).measures ++ [⟨ts - e.begun, echo⟩], true, ?_, fun y is _ => ⟨by rw [Option.some.inj is], rfl⟩,
        fun h => h.elim nofun nofun⟩
      cases c <;> rfl

/-- Settles O20: the measurement of `measure`, on the channel that the edge and the count have changed. -/
theorem strikeIsMeasured : Obligations.StrikeIsMeasured := by
  unfold Obligations.StrikeIsMeasured
  intro s c dot running isOpen mode tag awake few ts isDot
  have on : (s.chan c).mode ≠ .off := by simp [mode]
  let u := s.onChan c fun x => x.struck (s.chanConfig c).edge.activeHigh
  have edge : u.chan c = { s.chan c with lineHigh := (s.chanConfig c).edge.activeHigh, glareTimer := some 0 } := by
    rw [State.chan_onChan, Channel.struck, if_neg (by simp [mode])]
  have taken : u.takes c = true := (u.takes_iff c).mpr ⟨running, isOpen, by rw [edge]; simp [mode], by rw [edge]; exact few⟩
  have met := State.meetStrike_taken (s := u) ts false running (by rw [edge]; exact on) awake taken
  simp only [if_pos (show (u.chan c).mode = .calibrating by rw [edge]; exact mode)] at met
  let v := ({ u with idle := ⟨false, 0⟩ } : State).onChan c fun x => { x with strikes := x.strikes + 1 }
  have counted : v.chan c = { u.chan c with strikes := (u.chan c).strikes + 1 } := State.chan_onChan _ c _
  rw [edge] at counted
  obtain ⟨ms, was, effect, kept, refused⟩ := State.measure_eq (s := v) (c := c) (dot := dot) ts false (by rw [counted]; exact tag)
  rw [counted] at kept refused
  have struck : (u.meetStrike c ts false).chan c = { v.chan c with measures := ms, measured := was } := by
    rw [met, effect, State.chan_onChan]
  rw [counted] at struck
  refine ⟨u.meetStrike c ts false, congrArg Host.Outcome.next (State.strikeEdge_running running on), ?_, ?_, ?_, ?_, ?_⟩
  · rw [struck]
  · intro older e newer trail is newest fresh
    rw [struck]
    have trail' : v.beam.trail = older ++ e :: newer := trail
    exact kept e (by rw [trail']; exact dotEntry_newest is newest) fresh
  · intro none
    rw [struck]
    exact refused (none.imp_left dotEntry_none)
  · rw [met, effect, State.chan_onChan_other]
    cases c <;> rfl
  · rw [met, effect]; rfl

/-- What keeps a strike from being taken in RUNNING, of a kind that R22, R23 and R150 name. -/
theorem State.lost_iff {s : State} {c : Chan} (lost : s.beam.isOpen = false ∨ (s.chan c).mode = .glare ∨
    (s.chan c).mode = .suspended ∨ 4 ≤ (s.chan c).strikes ∨ (s.idle.dim = true ∧ s.config.strikeGate.report = false)) :
    s.passes .strike = false ∨ s.takes c = false := by
  rcases lost with h | h | h | h | ⟨dim, mute⟩
  · exact .inr (by simp [State.takes, h])
  · exact .inr (by simp [State.takes, h])
  · exact .inr (by simp [State.takes, h])
  · exact .inr (by simp [State.takes, Config.strikesMax, Nat.not_lt.mpr h])
  · exact .inl (by simp [State.passes, dim, Configuration.gate, mute])

/-- Settles O21: nothing but the edge and the monitor's own answer is left. -/
theorem strikeIsDiscarded : Obligations.StrikeIsDiscarded := by
  unfold Obligations.StrikeIsDiscarded
  intro s c running on lost
  let u := s.onChan c fun x => x.struck (s.chanConfig c).edge.activeHigh
  have edge : u.chan c = (s.chan c).struck (s.chanConfig c).edge.activeHigh := State.chan_onChan s c _
  have met : u.meetStrike c s.beam.clock false = { u with idle := u.wakened .strike } := by
    refine State.meetStrike_discarded _ _ running (by rw [edge]; exact on) (State.lost_iff ?_)
    rw [edge]
    exact lost
  exact ⟨_, congrArg Host.Outcome.next ((State.strikeEdge_running running on).trans met), edge, by cases c <;> rfl, rfl, rfl⟩

/-! ### Echoes -/

/-- The state in which a due echo is met: it is gone, and the frame clock has reached its time. -/
def State.echoed (s : State) (c : Chan) (n : Nat) : State :=
  { s.onChan c (fun x => { x with echo := .none }) with beam := { s.beam with clock := max s.beam.clock n } }

/-- A due echo with none of the other channel before it is met as a strike at its own time. -/
theorem State.deliverEcho_due {s : State} {c : Chan} {n : Nat} (running : s.regs.device = .running) (isOpen : s.beam.isOpen = true)
    (due : (s.chan c).echo = .due n) (alone : ∀ m, (s.chan (otherChan c)).echo ≠ .due m) :
    s.deliverEcho c = (s.echoed c n).meetStrike c n true := by
  have first : s.echoBefore (otherChan c) n = s := by
    unfold State.echoBefore
    cases other : (s.chan (otherChan c)).echo with
    | none => rfl
    | scheduled m => rfl
    | due m => exact absurd other (alone m)
  rw [State.deliverEcho, if_pos ⟨running, isOpen⟩, due]
  change (s.echoBefore (otherChan c) n).meetEcho c n = _
  rw [first]
  rfl

theorem State.chan_echoed (s : State) (c : Chan) (n : Nat) : (s.echoed c n).chan c = { s.chan c with echo := .none } := by
  cases c <;> rfl

/-- Settles O25: the echo is gone and the clock has reached its time when the strike is met. -/
theorem echoIsDelivered : Obligations.EchoIsDelivered := by
  unfold Obligations.EchoIsDelivered
  intro s c
  refine ⟨fun idle => ?_, fun n running isOpen due alone => ?_⟩
  · refine congrArg Host.Outcome.next ?_
    by_cases live : s.regs.device = .running ∧ s.beam.isOpen = true
    · refine State.deliverEcho_none ?_
      rcases idle with h | h | h
      · exact absurd live.1 h
      · simp [h] at live
      · exact h
    · exact if_neg live
  intro d k waits met
  refine ⟨fun mode awake few => ?_, fun on lost => ?_⟩
  · have verdict : (s.echoed c n).resolve c k = s.resolve c k :=
      State.resolve_congr k rfl rfl rfl rfl rfl rfl (by rw [State.chan_echoed])
    obtain ⟨rs, ps, effect, early, waiting, done⟩ := State.meetStrike_resolved (s := s.echoed c n) (c := c) n true running isOpen
      (by rw [State.chan_echoed]; exact mode) awake (by rw [State.chan_echoed]; exact few)
    have strike : (⟨n - ((s.echoed c n).chan c).delay,
        min (n - ((s.echoed c n).chan c).delay + ((s.echoed c n).chanConfig c).aperture) n, true⟩ : Strike) = k := by
      rw [State.chan_echoed]; rfl
    rw [strike] at waiting done
    rw [verdict] at done
    rw [State.chan_echoed] at early waiting done
    have struck : (State.meetStrike (s.echoed c n) c n true).chan c = { (s.echoed c n).chan c with
        strikes := ((s.echoed c n).chan c).strikes + 1, results := rs, pendingStrikes := ps } := by
      rw [effect, State.chan_onChan]; rfl
    rw [State.chan_echoed] at struck
    refine ⟨_, congrArg Host.Outcome.next (State.deliverEcho_due running isOpen due alone), ?_, ?_, ?_, ?_, ?_, ?_⟩
    · rw [struck]
    · rw [struck]; exact early
    · rw [struck]; exact waiting
    · rw [struck]; exact done
    · rw [effect, State.chan_onChan_other]; cases c <;> rfl
    · rw [effect]; rfl
  · have gone : (s.echoed c n).meetStrike c n true = { s.echoed c n with idle := (s.echoed c n).wakened .strike } := by
      refine State.meetStrike_discarded _ _ running (by rw [State.chan_echoed]; exact on) (State.lost_iff ?_)
      rw [State.chan_echoed]
      exact .inr lost
    exact ⟨_, congrArg Host.Outcome.next ((State.deliverEcho_due running isOpen due alone).trans gone), State.chan_echoed s c n,
      by cases c <;> rfl, rfl, rfl⟩

end Sys2Proof.Machine

/-! Records: where no bus error waits, the state after one differs only in what the Log Writer reaches, and with the next slot FREE
the record stands in it. -/

namespace Sys2Proof.Machine

/-! ### What the Log Writer reaches -/

/-- The state with memory, the Log Writer, the cause LOG and the lost flags replaced. -/
def State.logged (s : State) (m : List Host.Cell) (l : LogWriter) (cause : Bool) (lost : Lost) : State :=
  { s with mem := m, log := l, regs := { s.regs with causes := { s.regs.causes with log := cause }, lost := lost } }

/-- `t` is `s` but for what the Log Writer reaches, with memory still in its canonical form. -/
def Logged (s t : State) : Prop := ∃ m l cause lost, t = s.logged m l cause lost ∧ (Memory.wf s.mem → Memory.wf m)

theorem Logged.refl (s : State) : Logged s s := ⟨s.mem, s.log, s.regs.causes.log, s.regs.lost, rfl, id⟩

theorem Logged.trans {s t u : State} (h : Logged s t) (k : Logged t u) : Logged s u := by
  obtain ⟨m, l, cause, lost, rfl, wf⟩ := h
  obtain ⟨m', l', cause', lost', rfl, wf'⟩ := k
  exact ⟨m', l', cause', lost', rfl, wf' ∘ wf⟩

theorem Logged.quiet {s t : State} (h : Logged s t) (quiet : s.busQuiet) : t.busQuiet := by
  obtain ⟨m, l, cause, lost, rfl, wf⟩ := h
  exact quiet

theorem State.writeRecord_logged {s : State} (quiet : s.busQuiet) (r : Record) : Logged s (s.writeRecord r) := by
  rw [State.writeRecord_quiet quiet]
  exact ⟨_, _, true, s.regs.lost, rfl, fun w => State.wf_writeArea (s := s.writeArea _ _) _ _ (State.wf_writeArea _ _ w)⟩

theorem State.joinHold_logged (s : State) (r : Record) : Logged s (s.joinHold r) := by
  unfold State.joinHold
  dsimp only
  split
  · exact ⟨s.mem, _, s.regs.causes.log, s.regs.lost, rfl, id⟩
  · exact ⟨s.mem, s.log, s.regs.causes.log, _, rfl, id⟩

theorem State.drainSteps_logged (n : Nat) {s : State} (quiet : s.busQuiet) : Logged s (State.drainSteps n s) := by
  induction n generalizing s with
  | zero => exact .refl s
  | succ n ih =>
    unfold State.drainSteps
    split
    · exact .refl s
    next r rest _ =>
      rw [State.access_quiet quiet]
      dsimp only
      split
      · have left : Logged s { s with log := { s.log with held := rest } } :=
          ⟨s.mem, _, s.regs.causes.log, s.regs.lost, rfl, id⟩
        have written := left.trans (State.writeRecord_logged (left.quiet quiet) r)
        unfold State.andThen
        split
        · exact written
        · exact written.trans (ih (written.quiet quiet))
      · exact .refl s

theorem State.drain_logged {s : State} (quiet : s.busQuiet) : Logged s s.drain := State.drainSteps_logged _ quiet

theorem State.placeDrained_logged {s : State} (quiet : s.busQuiet) (r : Record) : Logged s (s.placeDrained r) := by
  unfold State.placeDrained
  rw [State.access_quiet quiet]
  split
  · dsimp only
    split
    · exact State.writeRecord_logged quiet r
    · exact s.joinHold_logged r
  · exact s.joinHold_logged r

/-- Where no bus error waits, a record reaches only what the Log Writer does. -/
theorem State.place_logged {s : State} (quiet : s.busQuiet) (r : Record) : Logged s (s.place r) := by
  have drained := State.drain_logged quiet
  unfold State.place State.andThen
  split
  · exact drained
  · exact drained.trans (State.placeDrained_logged (drained.quiet quiet) r)

theorem State.record_logged {s : State} (quiet : s.busQuiet) (c : Chan) (n : Notes) (b : Body) : Logged s (s.record c n b) :=
  State.place_logged quiet _

/-! ### A record written at once -/

theorem Memory.readBytes_add (m : List Host.Cell) (a n k : Nat) :
    Memory.readBytes m a (n + k) = Memory.readBytes m a n ++ Memory.readBytes m (a + n) k := by
  induction n generalizing a with
  | zero => simp [Memory.readBytes]
  | succ n ih =>
    rw [show n + 1 + k = n + k + 1 by omega, Memory.readBytes, Memory.readBytes, ih, List.cons_append,
      show a + (n + 1) = a + 1 + n by omega]

/-- The log after a record is written with nothing held. -/
def State.nextLog (s : State) : LogWriter := ⟨(s.log.nextSlot + 1) % 64, (s.log.recordNumber + 1) % 65536, []⟩

/-- The 64 bytes of a record stand in the next slot once it is written. -/
theorem State.slotBytes_written {s : State} (r : Record) (wf : Memory.wf s.mem) :
    ((s.writeArea (slotOffset s.log.nextSlot + 4) ((r.wordsAfter s.log.recordNumber).flatMap bytes32)).writeArea
      (slotOffset s.log.nextSlot) (bytes32 r.word0)).areaBytes (slotOffset s.log.nextSlot) 64 = slotBytes r s.log.recordNumber := by
  generalize off : slotOffset s.log.nextSlot = o
  generalize num : s.log.recordNumber = n
  have head := State.areaBytes_writeArea (s := s.writeArea (o + 4) ((r.wordsAfter n).flatMap bytes32)) o (bytes32 r.word0)
    (State.wf_writeArea _ _ wf)
  have rest := State.areaBytes_writeArea (s := s) (o + 4) ((r.wordsAfter n).flatMap bytes32) wf
  rw [length_bytes32] at head
  rw [length_wordsAfter] at rest
  have kept := State.areaBytes_writeArea_out (s.writeArea (o + 4) ((r.wordsAfter n).flatMap bytes32)) o (o + 4) 60
    (bytes32 r.word0) (.inr (by rw [length_bytes32]))
  have tail := kept.trans rest
  unfold State.areaBytes at head tail ⊢
  have next : ∀ t : State, t.area (o + 4) = t.area o + 4 := fun t => by simp [State.area, Nat.add_assoc]
  rw [next] at tail
  rw [show (64 : Nat) = 4 + 60 from rfl, Memory.readBytes_add, head, tail, slotBytes, List.flatMap_cons]

/-- Writing a record changes no byte outside the next slot. -/
theorem State.sameExcept_writeRecord {s : State} (quiet : s.busQuiet) (r : Record) :
    sameExcept s (s.writeRecord r) [s.slotRange] := by
  intro k clear
  have out := clear s.slotRange (by simp)
  rw [State.writeRecord_quiet quiet]
  refine (State.read_writeArea_out _ _ _ ?_).trans (State.read_writeArea_out _ _ _ ?_)
  · rw [length_bytes32]
    simp only [State.slotRange, State.area] at out
    simp only [State.area, State.writeArea]
    omega
  · rw [length_wordsAfter]
    simp only [State.slotRange, State.area] at out
    simp only [State.area]
    omega

/-- The state with memory replaced, LOG set, and the log one record further. -/
def State.noted (s : State) (m : List Host.Cell) : State := s.logged m s.nextLog true s.regs.lost

/-- Where the Log Writer is ready a record stands in the next slot, and nothing else has changed. -/
theorem State.place_noted {s : State} (quiet : s.busQuiet) (live : s.regs.device ≠ .halted) (ready : s.logReady)
    (wf : Memory.wf s.mem) (r : Record) :
    ∃ m, s.place r = s.noted m ∧ Memory.wf m ∧ recorded s (s.noted m) r ∧ sameExcept s (s.noted m) [s.slotRange] := by
  have written : s.place r = s.noted (s.writeRecord r).mem := by
    rw [State.place_ready quiet live ready, State.writeRecord_quiet quiet]
    unfold State.noted State.logged State.nextLog
    rw [← ready.1]
    rfl
  have bytes : (s.writeRecord r).areaBytes (slotOffset s.log.nextSlot) 64 = slotBytes r s.log.recordNumber := by
    rw [State.writeRecord_quiet quiet]
    exact State.slotBytes_written r wf
  refine ⟨(s.writeRecord r).mem, written, (State.writeRecord_quietFrame quiet r).wf wf, ⟨rfl, rfl, rfl, ?_⟩,
    State.sameExcept_writeRecord quiet r⟩
  rw [State.writeRecord_quiet quiet] at bytes ⊢
  exact bytes

theorem State.record_noted {s : State} (quiet : s.busQuiet) (live : s.regs.device ≠ .halted) (ready : s.logReady)
    (wf : Memory.wf s.mem) (c : Chan) (n : Notes) (b : Body) :
    ∃ m, s.record c n b = s.noted m ∧ Memory.wf m ∧ recorded s (s.noted m) ⟨.chan c, s.beam.frame, n, b⟩ ∧
      sameExcept s (s.noted m) [s.slotRange] := State.place_noted quiet live ready wf _

/-! ### What comes after a record -/

/-- `t` has the log and the registers of `s` that a record speaks of, and its memory outside some ranges. -/
structure Unheard (s t : State) (ranges : List (Nat × Nat)) : Prop where
  log : t.log = s.log := by rfl
  cause : t.regs.causes.log = s.regs.causes.log := by rfl
  lost : t.regs.lost = s.regs.lost := by rfl
  base : t.regs.areaBase = s.regs.areaBase := by rfl
  memory : sameExcept s t ranges := by exact fun _ _ => rfl

theorem sameExcept.trans {s t u : State} {l l' : List (Nat × Nat)} (h : sameExcept s t l) (k : sameExcept t u l') :
    sameExcept s u (l ++ l') := fun a clear =>
  (k a fun r mem => clear r (List.mem_append_right _ mem)).trans (h a fun r mem => clear r (List.mem_append_left _ mem))

theorem sameExcept.mono {s t : State} {l l' : List (Nat × Nat)} (h : sameExcept s t l) (sub : l ⊆ l') : sameExcept s t l' :=
  fun a clear => h a fun r mem => clear r (sub mem)

/-- A record made after unheard work is a record made from the start. -/
theorem recorded.of_unheard {s t u : State} {r : Record} {l : List (Nat × Nat)} (h : recorded t u r) (before : Unheard s t l)
    : recorded s u r := by
  obtain ⟨log, cause, lost, bytes⟩ := h
  rw [before.log] at log bytes
  exact ⟨log, cause, lost.trans before.lost, bytes⟩

/-- The slots stand above the status section. -/
theorem State.status_below_slots (s : State) (i : Nat) {k : Nat} (h : s.area (slotOffset i) ≤ k) :
    s.statusRange.1 + s.statusRange.2 ≤ k := by
  simp only [State.statusRange, State.area, slotOffset] at h ⊢
  omega

/-- Unheard work that writes at most the status section leaves every slot. -/
theorem Unheard.slot {s t : State} (h : Unheard s t [s.statusRange]) (i : Nat) :
    t.areaBytes (slotOffset i) 64 = s.areaBytes (slotOffset i) 64 := by
  have area : t.area (slotOffset i) = s.area (slotOffset i) := by rw [State.area, h.base]; rfl
  rw [State.areaBytes, area]
  refine Memory.readBytes_congr _ _ fun k low _ => h.memory k fun r mem => ?_
  rw [List.mem_singleton.mp mem]
  exact .inr (s.status_below_slots i low)

/-- A record stays as it stands through unheard work after it. -/
theorem recorded.unheard {s t u : State} {r : Record} (h : recorded s t r) (after : Unheard t u [t.statusRange]) :
    recorded s u r := by
  obtain ⟨log, cause, lost, bytes⟩ := h
  exact ⟨after.log.trans log, after.cause.trans cause, after.lost.trans lost, (after.slot _).trans bytes⟩

/-! ### A second record -/

/-- Two different slots do not meet. -/
theorem slots_apart {i j : Nat} (h : i ≠ j) :
    slotOffset i + 64 ≤ slotOffset j ∨ slotOffset j + 64 ≤ slotOffset i := by
  simp only [slotOffset]
  omega

theorem next_slot_ne (n : Nat) : (n + 1) % 64 ≠ n := by omega

/-- A record leaves every slot but its own. -/
theorem State.read_other_slot {s t : State} (same : sameExcept s t [s.slotRange]) {i k : Nat} (h : i ≠ s.log.nextSlot)
    (low : s.area (slotOffset i) ≤ k) (high : k < s.area (slotOffset i) + 64) : Memory.read t.mem k = Memory.read s.mem k := by
  refine same k fun r mem => ?_
  rw [List.mem_singleton.mp mem]
  have apart := slots_apart h
  simp only [State.slotRange, State.area] at low high ⊢
  omega

/-- A record placed right after another: in the slot after it where that reads FREE, and in its hold otherwise. The state `u` from
which it is placed is the one the first left, but for what no record speaks of. -/
theorem State.place_noted_again {s t u : State} {r : Record} (first : recorded s t r) (same : sameExcept s t [s.slotRange])
    (unheard : Unheard t u []) (base : t.regs.areaBase = s.regs.areaBase) (quiet : u.busQuiet)
    (live : u.regs.device ≠ .halted) (wf : Memory.wf u.mem) (r' : Record) :
    ∃ m l, u.place r' = u.logged m l true s.regs.lost ∧ recordedBoth s (u.logged m l true s.regs.lost) r r' ∧
      sameExcept s (u.logged m l true s.regs.lost) [s.slotRange, s.secondRange] := by
  obtain ⟨log, cause, lost, bytes⟩ := first
  have uLog : u.log = ⟨(s.log.nextSlot + 1) % 64, (s.log.recordNumber + 1) % 65536, []⟩ := unheard.log.trans log
  have uBase : u.regs.areaBase = s.regs.areaBase := unheard.base.trans base
  have area : ∀ o, u.area o = s.area o := fun o => by rw [State.area, uBase]; rfl
  have read : ∀ k, Memory.read u.mem k = Memory.read t.mem k := fun k => unheard.memory k nofun
  have uCause : u.regs.causes.log = true := unheard.cause.trans cause
  have uLost : u.regs.lost = s.regs.lost := unheard.lost.trans lost
  have sameU : sameExcept s u [s.slotRange] := fun k clear => (read k).trans (same k clear)
  have firstBytes : u.areaBytes (slotOffset s.log.nextSlot) 64 = slotBytes r s.log.recordNumber := by
    rw [← bytes, State.areaBytes, State.areaBytes, area, show t.area _ = s.area _ by rw [State.area, base]; rfl]
    exact Memory.readBytes_congr _ _ fun k _ _ => read k
  have free : u.slotFree = true ↔ s.secondFree := by
    rw [State.slotFree, beq_iff_eq, uLog, area, State.secondFree,
      State.read_other_slot sameU (next_slot_ne s.log.nextSlot) (Nat.le_refl _) (by omega)]
  have regs : ({ u.regs with causes := { u.regs.causes with log := true }, lost := s.regs.lost } : Registers) = u.regs := by
    rw [← uCause, ← uLost]
  by_cases second : s.secondFree
  · have ready : u.logReady := ⟨by rw [uLog], free.mpr second⟩
    obtain ⟨m, placed, -, next, apart⟩ := State.place_noted quiet live ready wf r'
    obtain ⟨log', cause', lost', bytes'⟩ := next
    rw [uLog] at log' bytes'
    have noted : u.noted m = u.logged m u.nextLog true s.regs.lost := by rw [State.noted, uLost]
    rw [noted] at placed apart log' bytes' lost' cause'
    refine ⟨m, u.nextLog, placed, ⟨rfl, rfl, ?_, fun _ => ⟨?_, bytes'⟩, fun no => absurd second no⟩, ?_⟩
    · rw [← firstBytes]
      have other : s.log.nextSlot ≠ u.log.nextSlot := by rw [uLog]; exact (next_slot_ne _).symm
      exact Memory.readBytes_congr _ _ fun k low high => State.read_other_slot apart other low high
    · rw [log']
      simp only [Nat.mod_add_mod, Nat.add_assoc]
    · have range : u.slotRange = s.secondRange := by rw [State.slotRange, State.secondRange, uLog, area]
      rw [range] at apart
      exact sameU.trans apart
  · have busy : u.slotFree = false := Bool.eq_false_iff.mpr fun h => second (free.mp h)
    have held : u.log.held = [] := by rw [uLog]
    have placed : u.place r' = u.logged u.mem { u.log with held := [r'] } true s.regs.lost := by
      have joined : u.joinHold r' = { u with log := { u.log with held := [r'] } } := by
        simp [State.joinHold, LogWriter.hold, held, Config.holdMax]
      rw [State.place, State.drain_empty held, State.andThen_live _ live, State.placeDrained, held, State.access_quiet quiet]
      refine (if_neg (by rw [busy]; decide)).trans (joined.trans ?_)
      unfold State.logged
      rw [regs]
    refine ⟨u.mem, _, placed, ⟨rfl, rfl, firstBytes, fun yes => absurd yes second, fun _ => ?_⟩, sameU.mono (by simp)⟩
    simp [State.logged, uLog]

end Sys2Proof.Machine

/-! HALTED, the registers and bus errors, and the Log Writer's holds. -/

namespace Sys2Proof.Machine

/-! ### HALTED -/

/-- `t` is `s` in every block, but for the pins and the host's own cell; the registers are left to each command. -/
structure Frozen (s t : State) : Prop where
  beam : t.beam = s.beam := by rfl
  menus : t.menus = s.menus := by rfl
  claims : t.claims = s.claims := by rfl
  idle : t.idle = s.idle := by rfl
  feedback : t.feedback = s.feedback := by rfl
  loader : t.loader = s.loader := by rfl
  log : t.log = s.log := by rfl
  requests : t.requests = s.requests := by rfl
  locks : t.locks = s.locks := by rfl
  work : t.work = s.work := by rfl
  pending : t.pending = s.pending := by rfl
  chan : ∀ c, t.chan c = { s.chan c with lineHigh := (t.chan c).lineHigh } := by exact fun _ => rfl
  inputs : ∀ n : Fin 8, (t.inputs.get n).level = (s.inputs.get n).level ∧ (t.inputs.get n).timer = (s.inputs.get n).timer := by
    exact fun _ => ⟨rfl, rfl⟩
  memory : sameExcept s t [s.cellRange] := by exact fun _ _ => rfl

theorem State.settle_idle {s : State} (idle : s.regs.device ≠ .running) : s.settle = s := if_neg fun h => idle h.1

theorem Frozen.onChan (s : State) (c : Chan) (high : Bool) : Frozen s (s.onChan c fun x => { x with lineHigh := high }) where
  chan := fun d => by
    by_cases same : d = c
    · subst same; rw [State.chan_onChan]
    · rw [State.chan_onChan_ne s _ same]

theorem State.get_setInput (s : State) (n m : Fin 8) (w : Switch) :
    (s.setInput n w).inputs.get m = if n = m then w else s.inputs.get m := by
  simp only [State.setInput, Vector.get_eq_getElem, Vector.getElem_set, Fin.ext_iff]

theorem Frozen.setInput (s : State) (n : Fin 8) (raw : Bool) :
    Frozen s (s.setInput n { s.inputs.get n with raw := raw }) where
  inputs := fun m => by
    rw [State.get_setInput]
    split
    next same => exact same ▸ ⟨rfl, rfl⟩
    · exact ⟨rfl, rfl⟩

/-- In HALTED a request is no more than its cell. -/
theorem State.request_halted {s : State} (halted : s.regs.device = .halted) (code : BitVec 8) (r : RequestArgs) :
    s.request code r = s.placeCell code r := if_pos ((congrArg Registers.device (by rw [State.placeCell_eq])).trans halted)

theorem Frozen.request {s : State} (halted : s.regs.device = .halted) (code : BitVec 8) (r : RequestArgs) :
    Frozen s (s.request code r) := by
  rw [State.request_halted halted, State.placeCell_eq]
  exact { memory := fun k clear => s.read_takenAt code r (clear s.cellRange (by simp)) }

theorem State.request_halted_regs {s : State} (halted : s.regs.device = .halted) (code : BitVec 8) (r : RequestArgs) :
    (s.request code r).regs = s.regs := by
  rw [State.request_halted halted, State.placeCell_eq]

/-- Every command but those that may lead out of HALTED leaves every block frozen there, and the registers but for STATUS WRITE. -/
theorem exec_frozen {s : State} (i : Instr) (halted : s.regs.device = .halted) (stays : i.leavesHalted = false) :
    ∃ t, exec i s = .next t ∧ Frozen s t ∧ (t.regs = s.regs ∨ ∃ v, i = .statusWrite v ∧ t.regs = { s.regs with
      causes := s.regs.causes.afterWrite (Causes.ofWord v), lost := s.regs.lost.afterWrite (Lost.ofWord v) }) := by
  have idle : s.regs.device ≠ .running := by simp [halted]
  have still : ∀ {i : Instr} {t : State}, exec i s = .next t → t = s → ∃ t, exec i s = .next t ∧ Frozen s t ∧
      (t.regs = s.regs ∨ ∃ v, i = .statusWrite v ∧ t.regs = { s.regs with
        causes := s.regs.causes.afterWrite (Causes.ofWord v), lost := s.regs.lost.afterWrite (Lost.ofWord v) }) :=
    fun ran same => ⟨_, ran, same ▸ {}, .inl (same ▸ rfl)⟩
  have asked : ∀ {i : Instr} (code : BitVec 8) (r : RequestArgs), exec i s = .next (s.request code r) →
      ∃ t, exec i s = .next t ∧ Frozen s t ∧ (t.regs = s.regs ∨ ∃ v, i = .statusWrite v ∧ t.regs = { s.regs with
        causes := s.regs.causes.afterWrite (Causes.ofWord v), lost := s.regs.lost.afterWrite (Lost.ofWord v) }) :=
    fun code r ran => ⟨_, ran, .request halted code r, .inl (State.request_halted_regs halted code r)⟩
  have note : ∀ f : State → State, s.settleAll.andThen f = s := fun f => by
    rw [State.settleAll_idle idle, State.andThen_halted _ halted]
  cases i with
  | frameStart => exact still rfl (by rw [halted])
  | vectorBegin v => exact still rfl (note _)
  | vectorEnd => exact still rfl (note _)
  | frameEnd => exact still rfl (note _)
  | frameClockSaturation => exact still rfl (if_neg fun h => idle h.1)
  | strike c =>
    refine ⟨s.onChan c fun x => { x with lineHigh := (s.chanConfig c).edge.activeHigh }, ?_, .onChan s c _, .inl rfl⟩
    exact congrArg Host.Outcome.next (if_neg fun h => idle h.1)
  | lineLeavesActiveLevel c =>
    refine ⟨s.onChan c fun x => { x with lineHigh := !(s.chanConfig c).edge.activeHigh }, ?_, .onChan s c _, .inl rfl⟩
    refine congrArg Host.Outcome.next ?_
    rw [State.lineLeaves, State.settle_idle (by exact idle), State.andThen_halted _ (by exact halted)]
  | glareOnset c => exact still rfl (if_neg (by simp [State.canGlare, halted]))
  | glareReminder c => exact still rfl (if_neg fun h => idle h.1)
  | echoDelivery c => exact still rfl (if_neg fun h => idle h.1)
  | switchInputChange n p =>
    refine ⟨s.setInput n { s.inputs.get n with raw := p }, ?_, .setInput s n p, .inl rfl⟩
    refine congrArg Host.Outcome.next ?_
    rw [State.settle_idle idle, State.rawChange, if_pos halted]
  | debounceCompletion n => exact still rfl (by rw [State.settle_idle idle, State.andThen_halted _ halted])
  | idleTimeout => exact still rfl (if_neg fun h => idle h.1)
  | miss c => exact still rfl (if_neg fun h => idle h.1)
  | askDecision => exact still rfl (if_neg fun h => idle h.1)
  | lost c => exact still rfl (if_neg fun h => idle h.1)
  | tooFew c => exact still rfl (if_neg fun h => idle h.1)
  | confirmExpiry c => exact still rfl (if_neg fun h => idle h.1)
  | blinkPeriodEnd => exact still rfl (if_neg fun h => idle h.1)
  | readEnd t => exact still rfl (if_neg (by simp [halted]))
  | lockGroup r => exact asked 1 r rfl
  | unlockGroup r => exact asked 2 r rfl
  | lockAll r => exact asked 3 r rfl
  | unlockAll r => exact asked 4 r rfl
  | claim r => exact asked 5 r rfl
  | release r => exact asked 6 r rfl
  | suspendTrack r => exact asked 7 r rfl
  | resumeTrack r => exact asked 8 r rfl
  | calibrate r => exact asked 9 r rfl
  | cancelCalibration r => exact asked 10 r rfl
  | openSheet r => exact asked 11 r rfl
  | homeMenu r => exact asked 12 r rfl
  | collect r => exact asked 13 r rfl
  | endCollection r => exact asked 14 r rfl
  | injectStrike r => exact asked 15 r rfl
  | unknownRequest code r => exact asked code r rfl
  | attentionWrite => exact still rfl (if_pos halted)
  | statusWrite v => exact ⟨_, rfl, {}, .inr ⟨v, rfl, rfl⟩⟩
  | areaBaseWrite v => exact still rfl (if_neg (by simp [halted]))
  | busError e =>
    refine ⟨_, rfl, ?_, .inl ?_⟩
    · split
      · rw [State.busErrorNow, halted]; exact {}
      · exact {}
    · split
      · rw [State.busErrorNow, halted]
      · rfl
  | runSet v => cases stays
  | stop v => cases stays
  | softReset v => cases stays
  | interruptEnablesWrite v => cases stays
  | powerOnReset => cases stays

/-- Settles O13: every command but STATUS WRITE keeps the registers, and that one clears flags. -/
theorem haltedIsFrozen : Obligations.HaltedIsFrozen := by
  unfold Obligations.HaltedIsFrozen
  intro i s t halted stays ran
  obtain ⟨u, did, frozen, regs⟩ := exec_frozen i halted stays
  obtain rfl : u = t := by rw [did] at ran; cases ran; rfl
  have only : u.regs = { s.regs with causes := u.regs.causes, lost := u.regs.lost } := by
    rcases regs with same | ⟨v, -, wrote⟩
    · rw [same]
    · rw [wrote]
  have cleared : (u.regs.causes.log → s.regs.causes.log) ∧ (u.regs.causes.request → s.regs.causes.request) ∧
      (u.regs.causes.load → s.regs.causes.load) ∧ (u.regs.causes.fault → s.regs.causes.fault) ∧
      (u.regs.lost.a → s.regs.lost.a) ∧ (u.regs.lost.b → s.regs.lost.b) ∧ (u.regs.lost.console → s.regs.lost.console) := by
    rcases regs with same | ⟨v, -, wrote⟩
    · rw [same]; exact ⟨id, id, id, id, id, id, id⟩
    · rw [wrote]
      have first : ∀ {p q : Bool}, (p && q) = true → p = true := fun h => (Bool.and_eq_true_iff.mp h).1
      exact ⟨first, first, first, first, first, first, first⟩
  have kept : (∀ v, i ≠ .statusWrite v) → u.regs = s.regs := fun other => regs.resolve_right fun ⟨v, is, _⟩ => other v is
  exact ⟨only, cleared, kept, frozen.beam, frozen.menus, frozen.claims, frozen.idle, frozen.feedback, frozen.loader, frozen.log,
    frozen.requests, frozen.locks, frozen.work, frozen.pending, frozen.chan, frozen.inputs, frozen.memory⟩

/-! ### An entry to HALTED -/

theorem statusImage_device (s : State) : (statusImage s)[2]? = some (BitVec.ofNat 8 s.regs.device.code) := rfl

/-- Entry to HALTED where no bus error waits: the registers, the glare timers and the status section are all that it reaches. -/
theorem State.halt_quiet {s : State} (quiet : s.busQuiet) (wf : Memory.wf s.mem) (k : FaultKind) :
    ∃ m, s.halt k = { s.stopGlareTimers with
        regs := { s.regs with device := .halted, faultKind := k, causes := { s.regs.causes with fault := true } }, mem := m } ∧
      (s.halt k).areaBytes 0x42 1 = [3] ∧ sameExcept s (s.halt k) [s.statusRange] := by
  let u := s.stopGlareTimers.onRegs fun g =>
    { g with device := .halted, faultKind := k, causes := { g.causes with fault := true } }
  have written : s.halt k = u.writeArea 0x40 (statusImage u) := congrArg Prod.snd (State.tryStatus_quiet (s := u) quiet)
  obtain ⟨bound, device⟩ := List.getElem?_eq_some_iff.mp (statusImage_device u)
  have shown := State.read_writeArea_in (s := u) 0x40 (statusImage u) wf bound
  rw [device] at shown
  have length := length_statusImage u
  rw [written]
  generalize statusImage u = image at shown length ⊢
  refine ⟨(u.writeArea 0x40 image).mem, rfl, congrArg (fun b => [b]) shown, fun k clear => ?_⟩
  refine State.read_writeArea_out u 0x40 image ?_
  rw [length]
  exact clear s.statusRange (by simp)

/-! ### CONTROL -/

/-- Every row that writes CONTROL is that write. -/
theorem exec_control {s : State} {v : Word} {i : Instr}
    (row : i ∈ [Instr.runSet v, .stop v, .softReset v, .interruptEnablesWrite v]) : exec i s = .next (s.writeControl v) := by
  simp only [List.mem_cons, List.not_mem_nil, or_false] at row
  rcases row with rfl | rfl | rfl | rfl
  · rfl
  · rfl
  · rfl
  · rfl

/-- A four-byte field holds 1 in exactly one way. -/
theorem State.formatNumber_eq_one (s : State) : s.formatNumber = 1 ↔ s.areaBytes 0x00 4 = [1, 0, 0, 0] := by
  unfold State.formatNumber State.areaBytes
  simp only [Memory.readBytes]
  generalize Memory.read s.mem _ = a
  generalize Memory.read s.mem _ = b
  generalize Memory.read s.mem _ = c
  generalize Memory.read s.mem _ = d
  have ba := a.isLt
  have bb := b.isLt
  have bc := c.isLt
  have bd := d.isLt
  have one : (1 : Byte).toNat = 1 := rfl
  have zero : (0 : Byte).toNat = 0 := rfl
  simp only [ofBytes, List.cons.injEq, and_true, ← BitVec.toNat_inj, one, zero]
  omega

/-- Settles O56: the value of the write decides, and a start looks at the format number. -/
theorem controlWriteStarts : Obligations.ControlWriteStarts := by
  unfold Obligations.ControlWriteStarts
  intro s v quiet wf clear i row taken begins
  have ran : exec i s = .next (s.takeControl v) := by
    rw [exec_control row, State.writeControl, if_neg (by rw [clear]; decide)]
  let t := s.onRegs fun g => { g with run := v.getLsbD 0, enables := Causes.ofWord v }
  let u := t.onRegs fun g => { g with faultKind := .none }
  have start : begins → s.takeControl v = if u.formatNumber = 1 then u.onRegs fun g => { g with device := .loading }
      else u.halt .format := by
    rintro ⟨run, stopped⟩
    have access : u.access .formatRead = (none, u) := State.access_quiet (s := u) quiet _
    refine ((if_pos run).trans (if_pos stopped)).trans ?_
    unfold State.beginStart
    change (match u.access .formatRead with | (some _, t) => _ | (none, t) => _) = _
    rw [access]
  rw [ran]
  refine ⟨fun still either => congrArg Host.Outcome.next ?_, fun starts format => congrArg Host.Outcome.next ?_,
    fun starts format => ?_⟩
  · by_cases run : v.getLsbD 0 = true
    · exact (if_pos run).trans (if_neg fun stopped => still ⟨run, stopped⟩)
    · exact (if_neg run).trans (if_pos (either.resolve_left run))
  · exact (start starts).trans (if_pos (u.formatNumber_eq_one.mpr format))
  · have halts : s.takeControl v = u.halt .format :=
      (start starts).trans (if_neg fun one => format (u.formatNumber_eq_one.mp one))
    obtain ⟨m, is, shown, same⟩ := State.halt_quiet (s := u) quiet wf .format
    rw [halts]
    refine ⟨_, rfl, shown, same, ?_, fun c => ?_, ?_⟩
    · rw [is]; rfl
    · rw [is]; exact State.chan_stopGlareTimers s c
    · rw [is]; rfl

theorem get_map_stopped (v : Vector Switch 8) (n : Fin 8) :
    (v.map Switch.stopped).get n = ⟨(v.get n).raw, (v.get n).raw, none⟩ := by
  simp [Vector.get_eq_getElem, Switch.stopped]

/-- Settles O57: each of the three is one assignment of the reset values. -/
theorem stopAndResets : Obligations.StopAndResets := by
  unfold Obligations.StopAndResets
  intro s v cleared
  refine ⟨fun i row => ?_, s.powerOnValues, rfl, fun c => by cases c <;> rfl, get_map_stopped s.inputs, rfl⟩
  rw [exec_control row, State.writeControl]
  refine ⟨fun set => ⟨s.softResetValues, congrArg Host.Outcome.next (if_pos set), fun c => by cases c <;> rfl,
    get_map_stopped s.inputs, rfl⟩, fun clear stop started => ?_⟩
  refine ⟨(s.onRegs fun g => { g with run := v.getLsbD 0, enables := Causes.ofWord v }).stopValues,
    congrArg Host.Outcome.next ?_, fun c => by cases c <;> rfl, get_map_stopped s.inputs, ?_⟩
  · rw [if_neg (by rw [clear]; decide), State.takeControl]
    exact (if_neg (by rw [stop]; decide)).trans (if_neg started)
  · rw [← stop]; rfl

/-! ### Bus errors -/

/-- An abandoned read leaves its table IDLE, and nothing else changed. -/
theorem State.abandonRead_eq (s : State) (t : Option TableId) :
    ∃ l : Quad Load, s.abandonRead t = { s with loader := { s.loader with loads := l } } ∧
      (∀ i r got, s.loader.loads.get i = .reading r got → t = some i → l.get i = .idle) ∧
      ∀ i, t ≠ some i → l.get i = s.loader.loads.get i := by
  unfold State.abandonRead
  split
  · exact ⟨s.loader.loads, rfl, fun _ _ _ _ => nofun, fun _ _ => rfl⟩
  next i =>
    split
    · exact ⟨s.loader.loads.set i .idle, rfl, fun j r got _ is => by rw [Option.some.inj is, Quad.get_set_same],
        fun j other => Quad.get_set_ne _ _ fun same => other (congrArg some same.symm)⟩
    next idle =>
      refine ⟨s.loader.loads, rfl, fun j r got reading is => ?_, fun _ _ => rfl⟩
      rw [← Option.some.inj is, idle] at reading
      cases reading
    next waiting =>
      refine ⟨s.loader.loads, rfl, fun j r got reading is => ?_, fun _ _ => rfl⟩
      rw [← Option.some.inj is, waiting] at reading
      cases reading

theorem accessTable_eq_some (a : BusAccess) (i : TableId) :
    accessTable a = some i ↔ a = .tableRead i ∨ a = .revisionRead i := by
  cases a <;> simp [accessTable]

/-- Settles O59: by the device state, and by whether the error waits. -/
theorem busErrorHalts : Obligations.BusErrorHalts := by
  unfold Obligations.BusErrorHalts
  intro s e quiet wf fault
  refine ⟨fun now active => ?_, fun now stopped access => ?_, fun now halted => ?_, fun later => ?_⟩
  · obtain ⟨l, abandoned, idle, kept⟩ := s.abandonRead_eq (accessTable e.access)
    let u : State := { s with loader := { s.loader with loads := l } }
    have met : u.busErrorMet = u.halt .busError := by
      unfold State.busErrorMet
      rcases active with h | h
      · rw [show u.regs.device = .loading from h]
      · rw [show u.regs.device = .running from h]
    have halts : s.busErrorNow e.access = u.halt .busError := by
      rw [← met]
      unfold State.busErrorNow
      rcases active with h | h
      · rw [h, abandoned]
      · rw [h, abandoned]
    obtain ⟨m, is, shown, same⟩ := State.halt_quiet (s := u) quiet wf .busError
    refine ⟨u.halt .busError, congrArg Host.Outcome.next ((if_pos now).trans halts), ?_, shown, fun c => ?_,
      fun i r got reading which => ?_, fun i which => ?_, ?_, ?_, ?_, same⟩
    · rw [is]
    · rw [is]; exact State.chan_stopGlareTimers u c
    · rw [is]; exact idle i r got reading ((accessTable_eq_some _ i).mpr which)
    · rw [is]
      exact kept i fun some => ((accessTable_eq_some _ i).mp some).elim which.1 which.2
    · rw [is]; rfl
    · rw [is]; rfl
    · rw [is]; rfl
  · refine congrArg Host.Outcome.next ((if_pos now).trans ?_)
    have made : accessWhileStopped e.access = true := by rcases access with h | h <;> rw [h] <;> rfl
    rw [State.busErrorNow, stopped]
    refine (if_pos made).trans ?_
    rw [State.busErrorMet, stopped]
    rfl
  · refine congrArg Host.Outcome.next ((if_pos now).trans ?_)
    rw [State.busErrorNow, halted]
  · exact congrArg Host.Outcome.next (if_neg (Nat.ne_of_gt later))

/-! ### The holds -/

/-- A record that finds no FREE slot goes to its source's hold. -/
theorem State.place_busy {s : State} (quiet : s.busQuiet) (live : s.regs.device ≠ .halted) (busy : s.slotFree = false)
    (r : Record) : s.place r = s.joinHold r := by
  have drained : s.drain = s := by
    unfold State.drain
    cases held : s.log.held with
    | nil => rfl
    | cons x xs =>
      rw [List.length_cons, State.drainSteps, held, State.access_quiet quiet]
      exact if_neg (by rw [busy]; decide)
  rw [State.place, drained, State.andThen_live _ live, State.placeDrained]
  cases s.log.held with
  | nil =>
    rw [State.access_quiet quiet]
    exact if_neg (by rw [busy]; decide)
  | cons x xs => rfl

/-- A step of draining: the oldest held record goes to the FREE slot, and the rest is drained from there. -/
theorem State.drain_cons {s : State} (quiet : s.busQuiet) {r : Record} {rest : List Record} (held : s.log.held = r :: rest)
    (free : s.slotFree = true) (live : s.regs.device ≠ .halted) :
    s.drain = (State.writeRecord { s with log := { s.log with held := rest } } r).drain := by
  let u : State := { s with log := { s.log with held := rest } }
  have written := State.writeRecord_quiet (s := u) quiet r
  have left : (u.writeRecord r).log.held = rest := by rw [written]
  have alive : (u.writeRecord r).regs.device ≠ .halted := by rw [written]; exact live
  change _ = State.drainSteps (u.writeRecord r).log.held.length (u.writeRecord r)
  rw [left, State.drain, held, List.length_cons, State.drainSteps, held, State.access_quiet quiet]
  exact (if_pos free).trans (State.andThen_live _ alive)

/-- Settles O60: a busy slot sends a record to its hold, and draining is step by step. -/
theorem recordsWaitForASlot : Obligations.RecordsWaitForASlot := by
  unfold Obligations.RecordsWaitForASlot
  refine ⟨?_, fun s quiet => ⟨fun still => ?_, fun r rest held free live wf => ?_⟩⟩
  · intro s r quiet live busy kept full
    rw [State.place_busy quiet live busy]
    refine ⟨fun room => if_pos (Nat.lt_of_not_le room), fun none => (if_neg (Nat.not_lt.mpr none)).trans ?_⟩
    obtain ⟨source, frame, notes, body⟩ := r
    cases source with
    | chan c => cases c <;> rfl
    | console => rfl
  · unfold State.drain
    cases held : s.log.held with
    | nil => rfl
    | cons x xs =>
      have busy : s.slotFree = false := still.resolve_left (by simp [held])
      rw [List.length_cons, State.drainSteps, held, State.access_quiet quiet]
      exact if_neg (by rw [busy]; decide)
  · let u : State := { s with log := { s.log with held := rest } }
    refine ⟨u.writeRecord r, State.drain_cons quiet held free live, ?_, ?_, State.sameExcept_writeRecord (s := u) quiet r, ?_⟩
    · rw [State.writeRecord_quiet (s := u) quiet]
    · rw [State.writeRecord_quiet (s := u) quiet]
      exact State.slotBytes_written (s := u) r wf
    · rw [State.writeRecord_quiet (s := u) quiet]
      rfl

end Sys2Proof.Machine

/-! Requests: what the work of any request leaves as it is, and so what every taken request does. -/

namespace Sys2Proof.Machine

/-! ### What the work of a request leaves -/

/-- What no request does to a channel: it counts no strike, finds no result and takes no measurement, and no echo is lost to it. -/
structure Channel.Stays (x y : Channel) : Prop where
  strikes : x.strikes = 0 → y.strikes = 0 := by exact id
  results : x.results = [] → y.results = [] := by exact id
  measured : x.measured = false → y.measured = false := by exact id
  echo : x.echo.isPending = true → y.echo = x.echo := by exact fun _ => rfl

theorem Channel.Stays.trans {x y z : Channel} (h : x.Stays y) (k : y.Stays z) : x.Stays z where
  strikes := k.strikes ∘ h.strikes
  results := k.results ∘ h.results
  measured := k.measured ∘ h.measured
  echo := fun pending => by
    have same := h.echo pending
    exact (k.echo (by rw [same]; exact pending)).trans same

/-- `t` has of `s` all that no request reaches, the Request Handler's values, and memory in its canonical form. -/
structure Calm (s t : State) : Prop where
  pending : t.pending = s.pending := by rfl
  beam : t.beam = s.beam := by rfl
  inputs : t.inputs = s.inputs := by rfl
  idle : t.idle = s.idle := by rfl
  loader : t.loader = s.loader := by rfl
  work : t.work = s.work := by rfl
  busFault : t.busFault = s.busFault := by rfl
  outside : t.outside = s.outside := by rfl
  ticks : t.ticks = s.ticks := by rfl
  choices : t.choices = s.choices := by rfl
  regs : requestRegs s t := by exact ⟨rfl, rfl, rfl, rfl, rfl, rfl, rfl⟩
  requests : t.requests = s.requests := by rfl
  wf : Memory.wf s.mem → Memory.wf t.mem := by exact id
  asks : t.claims.asks = s.claims.asks := by rfl
  stays : ∀ c, (s.chan c).Stays (t.chan c) := by exact fun _ => {}

theorem Calm.refl (s : State) : Calm s s := {}

theorem requestRegs.trans {s t u : State} (h : requestRegs s t) (k : requestRegs t u) : requestRegs s u := by
  obtain ⟨h1, h2, h3, h4, h5, h6, h7⟩ := h
  obtain ⟨k1, k2, k3, k4, k5, k6, k7⟩ := k
  exact ⟨k1.trans h1, k2.trans h2, k3.trans h3, k4.trans h4, k5.trans h5, k6.trans h6, k7.trans h7⟩

theorem Calm.trans {s t u : State} (h : Calm s t) (k : Calm t u) : Calm s u where
  pending := k.pending.trans h.pending
  beam := k.beam.trans h.beam
  inputs := k.inputs.trans h.inputs
  idle := k.idle.trans h.idle
  loader := k.loader.trans h.loader
  work := k.work.trans h.work
  busFault := k.busFault.trans h.busFault
  outside := k.outside.trans h.outside
  ticks := k.ticks.trans h.ticks
  choices := k.choices.trans h.choices
  regs := h.regs.trans k.regs
  requests := k.requests.trans h.requests
  wf := k.wf ∘ h.wf
  asks := k.asks.trans h.asks
  stays := fun c => (h.stays c).trans (k.stays c)

theorem Calm.onChan (s : State) (c : Chan) {f : Channel → Channel} (h : (s.chan c).Stays (f (s.chan c))) : Calm s (s.onChan c f) :=
  { stays := fun d => by
      by_cases same : d = c
      · subst same
        rw [State.chan_onChan]
        exact h
      · rw [State.chan_onChan_ne s f same]
        exact {} }

theorem Calm.andThen {s t : State} {f : State → State} (h : Calm s t) (k : Calm t (f t)) : Calm s (t.andThen f) := by
  unfold State.andThen
  split
  · exact h
  · exact h.trans k

theorem Logged.calm {s t : State} (h : Logged s t) : Calm s t := by
  obtain ⟨m, l, cause, lost, rfl, wf⟩ := h
  exact { wf := wf }

theorem Calm.record {s : State} (quiet : s.busQuiet) (c : Chan) (n : Notes) (b : Body) : Calm s (s.record c n b) :=
  (State.record_logged quiet c n b).calm

theorem Calm.clearArmed (s : State) (c : Chan) : Calm s (s.clearArmed c) := by
  unfold State.clearArmed
  split
  · exact .refl s
  · unfold State.syncBlink
    split
    · exact {}
    · exact {}
    · exact {}
    · exact {}

theorem Calm.disarm {s : State} (quiet : s.busQuiet) (c : Chan) (cause : DisarmCause) : Calm s (s.disarm c cause) := by
  refine Calm.andThen ?_ (.clearArmed _ c)
  unfold State.reportDisarm
  split
  · exact .refl s
  · exact .record quiet c _ _

theorem Calm.endCollection {s : State} (quiet : s.busQuiet) (c : Chan) (o : SeqOutcome) : Calm s (s.endCollection c o) := by
  unfold State.endCollection
  split
  · exact .refl s
  · exact (Calm.record quiet c _ _).andThen (.onChan _ c {})

theorem Calm.endTracking {s : State} (quiet : s.busQuiet) (c : Chan) (e : EndReason) : Calm s (s.endTracking c e) := by
  unfold State.endTracking State.closeTracking
  exact ((Calm.record quiet c _ _).andThen {}).andThen (.onChan _ c {})

theorem Calm.dropTracking {s : State} (quiet : s.busQuiet) (c : Chan) (e : EndReason) : Calm s (s.dropTracking c e) :=
  (Calm.endTracking quiet c e).andThen (.onChan _ c { results := fun _ => rfl })

theorem Calm.endCalibration {s : State} (quiet : s.busQuiet) (c : Chan) (o : CalOutcome) (m : Mode) :
    Calm s (s.endCalibration c o m) := by
  unfold State.endCalibration
  exact (Calm.record quiet c _ _).andThen (.onChan _ c { measured := fun _ => rfl })

theorem Calm.ite {s t u : State} {o p : ReqOutcome} {P : Prop} [Decidable P] (h : P → Calm s t) (k : ¬P → Calm s u) :
    Calm s (if P then (t, o) else (u, p)).1 := by
  split
  next yes => exact h yes
  next no => exact k no

theorem Calm.forChan {s : State} (r : RequestArgs) {f : Chan → State × ReqOutcome} (h : ∀ c, Calm s (f c).1) :
    Calm s (s.forChan r f).1 := by
  unfold State.forChan
  split
  · exact .refl s
  · exact h _

theorem Calm.forEnabled {s : State} (r : RequestArgs) {f : Chan → State × ReqOutcome} (h : ∀ c, Calm s (f c).1) :
    Calm s (s.forEnabled r f).1 := .forChan r fun c => by
  split
  · exact .refl s
  · exact h c

theorem Calm.decideLock (s : State) (r : RequestArgs) (v : Bool) : Calm s (s.decideLock r v).1 :=
  .forChan r fun _ => .ite (fun _ => .refl s) fun _ => {}

theorem Calm.decideLockAll (s : State) (r : RequestArgs) (v : Bool) : Calm s (s.decideLockAll r v).1 := .forChan r fun _ => {}

theorem Calm.decideClaim (s : State) (r : RequestArgs) : Calm s (s.decideClaim r).1 := by
  unfold State.decideClaim
  split
  · exact .refl s
  · exact .ite (fun _ => .refl s) fun _ => {}

theorem Calm.decideRelease {s : State} (quiet : s.busQuiet) (r : RequestArgs) : Calm s (s.decideRelease r).1 := by
  unfold State.decideRelease
  split
  · exact .refl s
  · exact {}
  · exact .dropTracking quiet _ _

theorem Calm.decideSuspend (s : State) (r : RequestArgs) : Calm s (s.decideSuspend r).1 :=
  .forEnabled r fun _ => .ite (fun _ => .onChan s _ {}) fun _ => .refl s

theorem Calm.decideResume {s : State} (quiet : s.busQuiet) (r : RequestArgs) : Calm s (s.decideResume r).1 :=
  .forEnabled r fun _ => by
    split
    · exact .ite (fun _ => .onChan s _ {}) fun _ => .dropTracking quiet _ _
    · exact .refl s

theorem Calm.decideCalibrate (s : State) (r : RequestArgs) : Calm s (s.decideCalibrate r).1 :=
  .forEnabled r fun _ => .ite (fun _ => .onChan s _ { results := fun _ => rfl, measured := fun _ => rfl }) fun _ => .refl s

theorem Calm.decideCancel {s : State} (quiet : s.busQuiet) (r : RequestArgs) : Calm s (s.decideCancel r).1 :=
  .forEnabled r fun _ => .ite (fun _ => .endCalibration quiet _ _ _) fun _ => .refl s

theorem Calm.decideOpen {s : State} (quiet : s.busQuiet) (r : RequestArgs) : Calm s (s.decideOpen r).1 :=
  .forEnabled r fun _ => by
    split
    · exact .refl s
    · refine .ite (fun _ => .refl s) fun _ => Calm.andThen (Calm.disarm quiet _ _) ?_
      exact {}

theorem Calm.decideHome {s : State} (quiet : s.busQuiet) (r : RequestArgs) : Calm s (s.decideHome r).1 :=
  .forEnabled r fun _ => by
    dsimp only
    refine Calm.andThen (Calm.disarm quiet _ _) ?_
    exact {}

theorem Calm.decideCollect (s : State) (r : RequestArgs) : Calm s (s.decideCollect r).1 :=
  .forEnabled r fun _ => by
    split
    · exact .refl s
    · exact .ite (fun _ => .refl s) fun _ => .onChan s _ {}

theorem Calm.decideEndCollection {s : State} (quiet : s.busQuiet) (r : RequestArgs) : Calm s (s.decideEndCollection r).1 :=
  .forEnabled r fun _ => .ite (fun _ => .endCollection quiet _ _) fun _ => .refl s

theorem Calm.decideInject (s : State) (r : RequestArgs) : Calm s (s.decideInject r).1 :=
  .forEnabled r fun _ => by
    split
    · exact .refl s
    · exact .ite (fun _ => .refl s) fun no => .onChan s _ { echo := fun pending => absurd (.inr pending) no }

/-- Every request's work leaves what no request reaches. -/
theorem Calm.dispatch {s : State} (quiet : s.busQuiet) (code : BitVec 8) (r : RequestArgs) : Calm s (s.dispatch code r).1 := by
  unfold State.dispatch
  split
  · exact .decideLock s r true
  · exact .decideLock s r false
  · exact .decideLockAll s r true
  · exact .decideLockAll s r false
  · exact .decideClaim s r
  · exact .decideRelease quiet r
  · exact .decideSuspend s r
  · exact .decideResume quiet r
  · exact .decideCalibrate s r
  · exact .decideCancel quiet r
  · exact .decideOpen quiet r
  · exact .decideHome quiet r
  · exact .decideCollect s r
  · exact .decideEndCollection quiet r
  · exact .decideInject s r
  · exact .refl s

theorem Calm.live {s t : State} (h : Calm s t) : t.regs.device = s.regs.device := h.regs.1

theorem Calm.quiet {s t : State} (h : Calm s t) (quiet : s.busQuiet) : t.busQuiet := h.busFault.trans quiet

/-- The frame and the registers of a completion are those of the state that the work left. -/
theorem Completed.calm {u t : State} {o : ReqOutcome} (did : Completed u t o) : requestRegs u t ∧ requestFrame u t := by
  refine ⟨?_, did.pending, did.beam, did.inputs, did.idle, did.loader, did.work, did.busFault, did.outside, did.ticks,
    did.choices⟩
  rw [requestRegs, did.regs]
  exact ⟨rfl, rfl, rfl, rfl, rfl, rfl, rfl⟩

theorem Calm.frame {s t : State} (h : Calm s t) : requestFrame s t :=
  ⟨h.pending, h.beam, h.inputs, h.idle, h.loader, h.work, h.busFault, h.outside, h.ticks, h.choices⟩

theorem requestFrame.trans {s t u : State} (h : requestFrame s t) (k : requestFrame t u) : requestFrame s u := by
  obtain ⟨h1, h2, h3, h4, h5, h6, h7, h8, h9, h10⟩ := h
  obtain ⟨k1, k2, k3, k4, k5, k6, k7, k8, k9, k10⟩ := k
  exact ⟨k1.trans h1, k2.trans h2, k3.trans h3, k4.trans h4, k5.trans h5, k6.trans h6, k7.trans h7, k8.trans h8, k9.trans h9,
    k10.trans h10⟩

/-! ### An ATTENTION write -/

theorem State.dispatch_unknown (s : State) {code : BitVec 8} (r : RequestArgs) (unknown : code.toNat = 0 ∨ 15 < code.toNat) :
    s.dispatch code r = (s, .unknown) := by
  unfold State.dispatch
  split
  case h_16 => rfl
  all_goals omega

/-- With nothing in the way an ATTENTION write judges the cell as it stands. -/
theorem State.attention_quiet {s : State} (live : s.regs.device ≠ .halted) (quiet : s.busQuiet) (still : s.frameQuiet) :
    s.attention = s.takeCell s.readCell.1 s.readCell.2 := by
  rw [State.attention, if_neg live, State.settle_quiet still, State.andThen_live _ live, State.sample, State.access_quiet quiet]

/-- Settles O55: a taken cell is dispatched and completed, and no request reaches more than `Calm` allows. -/
theorem unknownRequestAndAttention : Obligations.UnknownRequestAndAttention := by
  unfold Obligations.UnknownRequestAndAttention
  intro s
  refine ⟨fun halted => congrArg Host.Outcome.next (if_pos halted), fun live quiet still wf => ?_,
    fun code r accepts unknown => ⟨_, rfl, State.request_refused accepts (State.dispatch_unknown _ r unknown)⟩⟩
  intro seq
  have attends : exec .attentionWrite s = .next (s.takeCell s.readCell.1 s.readCell.2) :=
    congrArg Host.Outcome.next (State.attention_quiet live quiet still)
  have same : s.readCell.2.seq = seq := rfl
  rw [attends]
  refine ⟨fun stale => congrArg Host.Outcome.next (if_pos stale), fun nonzero new => ⟨_, rfl, ?_⟩⟩
  let d : State := { s with requests := { s.requests with lastTaken := seq } }
  have calm := Calm.dispatch (s := d) quiet s.readCell.1 s.readCell.2
  have taken : s.takeCell s.readCell.1 s.readCell.2 =
      (d.dispatch s.readCell.1 s.readCell.2).1.complete (d.dispatch s.readCell.1 s.readCell.2).2 := by
    refine (if_neg (not_or.mpr ⟨nonzero, new⟩)).trans (State.andThen_live _ ?_)
    exact fun halted => live (calm.live.symm.trans halted)
  rw [taken]
  generalize d.dispatch s.readCell.1 s.readCell.2 = p at calm
  obtain ⟨u, o⟩ := p
  have did := State.complete_completed (calm.quiet quiet) (calm.wf wf) o
  have last : u.requests.lastTaken = seq := by rw [calm.requests]
  have regs : requestRegs s u := calm.regs
  have frame : requestFrame s u := calm.frame
  refine ⟨?_, ?_, ?_, regs.trans did.calm.1, frame.trans did.calm.2⟩
  · rw [did.requests]; exact last
  · rw [did.regs]
  · rw [did.requests]
    exact did.shown.trans (by rw [last])

/-! ### What a request leaves of a record made in its work -/

/-- An accepted request whose work is calm is done, and completes the state that its work left. -/
theorem State.request_done {s u : State} {code : BitVec 8} {r : RequestArgs} {o : ReqOutcome} (h : s.accepts r)
    (decided : (s.takenAt code r).dispatch code r = (u, o)) :
    requestDone s (s.request code r) r o ∧ Completed u (s.request code r) o := by
  obtain ⟨device, bus, frame, wf, nonzero, new⟩ := h
  have calm : Calm (s.takenAt code r) u := by
    have any := Calm.dispatch (s := s.takenAt code r) bus code r
    rw [decided] at any
    exact any
  have did := State.request_completed device bus frame wf nonzero new decided (by rw [calm.live]; exact device)
    (calm.quiet bus) (calm.wf (State.takenAt_mem code r wf))
  have last : u.requests.lastTaken = r.seq := by rw [calm.requests]; rfl
  have regs : requestRegs s u := calm.regs
  have kept : requestFrame s u := calm.frame
  refine ⟨⟨?_, ?_, ?_, regs.trans did.calm.1, kept.trans did.calm.2⟩, did⟩
  · rw [did.requests, last]
  · rw [did.shown, last]
  · rw [did.regs]

/-- The completion of a request is unheard: no record is made, and memory changes in the status section alone. -/
theorem Completed.unheard {u t : State} {o : ReqOutcome} (did : Completed u t o) : Unheard u t [u.statusRange] where
  log := did.log
  cause := by rw [did.regs]
  lost := by rw [did.regs]
  base := by rw [did.regs]
  memory := fun k clear => did.elsewhere k (by
    have out := clear u.statusRange (by simp)
    simp only [State.statusRange, State.area] at out ⊢
    omega)

/-- The placing of a request is unheard: no record is made, and memory changes in the cell alone. -/
theorem State.takenAt_unheard (s : State) (code : BitVec 8) (r : RequestArgs) : Unheard s (s.takenAt code r) [s.cellRange] where
  memory := fun _ clear => s.read_takenAt code r (clear s.cellRange (by simp))

/-- The state in which a request is decided is ready for a record where the state before it is. -/
theorem State.takenAt_ready {s : State} (code : BitVec 8) (r : RequestArgs) (ready : s.logReady) : (s.takenAt code r).logReady := by
  refine ⟨ready.1, ?_⟩
  have free := ready.2
  rw [State.slotFree, beq_iff_eq] at free ⊢
  refine Eq.trans (s.read_takenAt code r (.inr ?_)) free
  simp only [State.cellRange, State.area, slotOffset, State.takenAt]
  omega

/-- A record that the work of a request makes, as it stands once the request has completed. -/
theorem State.request_recorded {s u : State} {code : BitVec 8} {r : RequestArgs} {o : ReqOutcome} {k : Record}
    (did : Completed u (s.request code r) o) (base : u.regs.areaBase = s.regs.areaBase) (made : recorded (s.takenAt code r) u k)
    (same : sameExcept (s.takenAt code r) u [s.slotRange]) :
    recorded s (s.request code r) k ∧ sameExcept s (s.request code r) [s.cellRange, s.statusRange, s.slotRange] := by
  have status : u.statusRange = s.statusRange := by rw [State.statusRange, State.area, base]; rfl
  have after := did.unheard
  have before := s.takenAt_unheard code r
  refine ⟨(made.of_unheard before).unheard after, ?_⟩
  have all := (before.memory.trans same).trans after.memory
  rw [status] at all
  exact all.mono (by simp)

end Sys2Proof.Machine

/-! The operations that make one record, where the Log Writer is ready for it. -/

namespace Sys2Proof.Machine

/-! ### The end of tracking, of a calibration and of a collection -/

section
variable {s : State} (quiet : s.busQuiet) (live : s.regs.device ≠ .halted) (ready : s.logReady) (wf : Memory.wf s.mem)
include quiet live ready wf

/-- The end of a tracking whose channel stays in its state: its record, and its claim gone. -/
theorem State.closeTracking_noted {c : Chan} {g tag : Nat} (tracked : (s.chan c).tracked = some (g, tag)) (e : EndReason) :
    ∃ m, s.closeTracking c e = (s.noted m).onClaims (fun k => withoutPen k c) ∧ Memory.wf m ∧
      recorded s (s.noted m) ⟨.chan c, s.beam.frame, { echo := e == .lost && (s.chan c).echoInCentre },
        .trackEnd g tag (s.chan c).centre (loftPoint s.tables g (s.chan c).centre) e (s.chan c).duration⟩ ∧
      sameExcept s (s.noted m) [s.slotRange] := by
  obtain ⟨m, placed, kept, made, same⟩ := State.record_noted quiet live ready wf c { echo := e == .lost && (s.chan c).echoInCentre }
    (.trackEnd g tag (s.chan c).centre (loftPoint s.tables g (s.chan c).centre) e (s.chan c).duration)
  refine ⟨m, ?_, kept, made, same⟩
  rw [State.closeTracking, tracked, Option.getD_some, placed]
  exact State.andThen_live _ live

/-- The end of a tracking after which the channel is in WATCH. -/
theorem State.endTracking_noted {c : Chan} {g tag : Nat} (tracked : (s.chan c).tracked = some (g, tag)) (e : EndReason) :
    ∃ m, s.endTracking c e =
        ((s.noted m).onClaims fun k => withoutPen k c).onChan c (fun x => x.leaveTracking.goto .watch) ∧ Memory.wf m ∧
      recorded s (s.noted m) ⟨.chan c, s.beam.frame, { echo := e == .lost && (s.chan c).echoInCentre },
        .trackEnd g tag (s.chan c).centre (loftPoint s.tables g (s.chan c).centre) e (s.chan c).duration⟩ ∧
      sameExcept s (s.noted m) [s.slotRange] := by
  obtain ⟨m, closed, kept, made, same⟩ := State.closeTracking_noted quiet live ready wf tracked e
  refine ⟨m, ?_, kept, made, same⟩
  rw [State.endTracking, closed]
  exact State.andThen_live _ live

/-- The end of a calibration: its record, and the channel in its next state without the calibration's values. -/
theorem State.endCalibration_noted {c : Chan} {dot : Nat} (tag : (s.chan c).dotTag = some dot) (o : CalOutcome) (next : Mode) :
    ∃ m, s.endCalibration c o next = (s.noted m).onChan c (fun y => { y.leaveCalibrating.goto next with
        lastCal := some (o, (middleTicks (s.chan c).measures).getD 0) }) ∧ Memory.wf m ∧
      recorded s (s.noted m) ⟨.chan c, s.beam.frame, { echo := (s.chan c).measures.any Measure.echo },
        .calibration o dot (s.chan c).measures.length (leastTicks (s.chan c).measures) (mostTicks (s.chan c).measures)
          (middleTicks (s.chan c).measures) (s.chan c).delay (32 - (s.chan c).budget)⟩ ∧
      sameExcept s (s.noted m) [s.slotRange] := by
  obtain ⟨m, placed, kept, made, same⟩ := State.record_noted quiet live ready wf c { echo := (s.chan c).measures.any Measure.echo }
    (.calibration o dot (s.chan c).measures.length (leastTicks (s.chan c).measures) (mostTicks (s.chan c).measures)
      (middleTicks (s.chan c).measures) (s.chan c).delay (32 - (s.chan c).budget))
  refine ⟨m, ?_, kept, made, same⟩
  unfold State.endCalibration
  dsimp only
  rw [tag, Option.getD_some]
  exact (congrArg (State.andThen · _) placed).trans (State.andThen_live _ live)

/-- The end of an active collection: its record, and then it is inactive. -/
theorem State.endCollection_noted {c : Chan} {k : Collection} (active : (s.chan c).collection = some k) (o : SeqOutcome) :
    ∃ m, s.endCollection c o = (s.noted m).onChan c (fun x => { x with collection := none }) ∧ Memory.wf m ∧
      recorded s (s.noted m) ⟨.chan c, s.beam.frame, {}, .sequenceEnd o k.requested k.tags⟩ ∧
      sameExcept s (s.noted m) [s.slotRange] := by
  obtain ⟨m, placed, kept, made, same⟩ := State.record_noted quiet live ready wf c {} (.sequenceEnd o k.requested k.tags)
  refine ⟨m, ?_, kept, made, same⟩
  rw [State.endCollection, active]
  exact (congrArg (State.andThen · _) placed).trans (State.andThen_live _ live)

/-- The disarming of an armed button: its record, and then the button is not armed. -/
theorem State.disarm_noted {c : Chan} {sheet i : Nat} (armed : (s.menu c).armed = some (sheet, i)) (cause : DisarmCause) :
    ∃ m, s.disarm c cause = (s.noted m).clearArmed c ∧ Memory.wf m ∧
      recorded s (s.noted m) ⟨.chan c, s.beam.frame, {}, s.menuBody c .disarmed sheet i none (some cause)⟩ ∧
      sameExcept s (s.noted m) [s.slotRange] := by
  obtain ⟨m, placed, kept, made, same⟩ := State.record_noted quiet live ready wf c {}
    (s.menuBody c .disarmed sheet i none (some cause))
  refine ⟨m, ?_, kept, made, same⟩
  have reported : s.reportDisarm c cause = s.noted m := by rw [State.reportDisarm, armed]; exact placed
  rw [State.disarm, reported]
  exact State.andThen_live _ live

end

/-! ### An unarmed channel, and an inactive collection -/

theorem State.clearArmed_unarmed {s : State} {c : Chan} (unarmed : (s.menu c).armed = none) : s.clearArmed c = s := by
  rw [State.clearArmed, unarmed]

theorem State.disarm_unarmed {s : State} {c : Chan} (unarmed : (s.menu c).armed = none) (cause : DisarmCause) :
    s.disarm c cause = s := by
  have silent : s.reportDisarm c cause = s := by rw [State.reportDisarm, unarmed]
  rw [State.disarm, silent, State.andThen, State.clearArmed_unarmed unarmed, ite_self]

theorem State.endCollection_inactive {s : State} {c : Chan} (inactive : (s.chan c).collection = none) (o : SeqOutcome) :
    s.endCollection c o = s := by rw [State.endCollection, inactive]

/-! ### The blink generator at a disarming -/

theorem Feedback.blink_adopt (f : Feedback) : f.adopt.blink = f.blink := by
  unfold Feedback.adopt
  split
  · rfl
  · rfl

/-- With no button armed the generator does not run. -/
theorem State.blink_syncBlink_unarmed {s : State} (unarmed : s.anyArmed = false) : s.syncBlink.feedback.blink = none := by
  unfold State.syncBlink
  rw [unarmed]
  cases blink : s.feedback.blink with
  | none => exact blink
  | some k => exact Feedback.blink_adopt _

/-- With a button armed a running generator keeps its count, and one that does not run starts. -/
theorem State.blink_syncBlink_armed {s : State} (armed : s.anyArmed = true) :
    s.syncBlink.feedback.blink = some (s.feedback.blink.getD 0) := by
  unfold State.syncBlink
  rw [armed]
  cases blink : s.feedback.blink with
  | none => rfl
  | some k => exact blink

theorem State.anyArmed_eq (s : State) (c : Chan) :
    s.anyArmed = ((s.menu c).armed.isSome || (s.menu (otherChan c)).armed.isSome) := by
  cases c with
  | a => rfl
  | b => exact Bool.or_comm _ _

/-- The generator after an armed button is cleared follows the other channel's. -/
theorem State.blink_clearArmed {s : State} {c : Chan} (armed : (s.menu c).armed ≠ none) :
    ((s.menu (otherChan c)).armed = none → (s.clearArmed c).feedback.blink = none) ∧
      ((s.menu (otherChan c)).armed ≠ none → (s.clearArmed c).feedback.blink = some (s.feedback.blink.getD 0)) := by
  obtain ⟨k, is⟩ := Option.ne_none_iff_exists'.mp armed
  let u := s.onMenu c fun m => { m with armed := none, countdown := 0 }
  have cleared : s.clearArmed c = u.syncBlink := by rw [State.clearArmed, is]
  have other : u.menu (otherChan c) = s.menu (otherChan c) := State.menu_onMenu_ne s _ (otherChan_ne c)
  have any : u.anyArmed = (s.menu (otherChan c)).armed.isSome := by
    rw [State.anyArmed_eq u c, State.menu_onMenu, other]
    rfl
  rw [cleared]
  refine ⟨fun none => State.blink_syncBlink_unarmed ?_, fun some => State.blink_syncBlink_armed ?_⟩
  · rw [any, none]; rfl
  · rw [any]; exact Option.isSome_iff_ne_none.mpr some

/-! ### The figures of a calibration -/

theorem sortedTicks_perm (ms : List Measure) : (sortedTicks ms).Perm (ms.map Measure.ticks) := List.perm_insertionSort _ _

theorem sortedTicks_sorted (ms : List Measure) : (sortedTicks ms).Pairwise (· ≤ ·) := List.pairwise_insertionSort _ _

/-- An empty list has neither a least nor a greatest measurement. -/
theorem leastTicks_nil : leastTicks [] = none := rfl

theorem mostTicks_nil : mostTicks [] = none := rfl

/-- In an ascending list the first entry is the least and the last is the greatest. -/
theorem ascending_ends {l : List Nat} (ascending : l.Pairwise (· ≤ ·)) (some : l ≠ []) :
    ∃ a b, l.head? = .some a ∧ l.getLast? = .some b ∧ a ∈ l ∧ b ∈ l ∧ ∀ x ∈ l, a ≤ x ∧ x ≤ b := by
  refine ⟨l.head some, l.getLast some, List.head?_eq_some_head some, List.getLast?_eq_some_getLast some, List.head_mem some,
    List.getLast_mem some, fun x mem => ⟨?_, ?_⟩⟩
  · cases l with
    | nil => exact absurd rfl some
    | cons y ys =>
      rcases List.mem_cons.mp mem with rfl | later
      · exact Nat.le_refl _
      · exact (List.pairwise_cons.mp ascending).1 x later
  · obtain ⟨front, last, rfl⟩ := List.eq_nil_or_concat' l |>.resolve_left some
    rw [List.getLast_append_singleton]
    rcases List.mem_append.mp mem with earlier | final
    · exact (List.pairwise_append.mp ascending).2.2 x earlier last (List.mem_singleton.mpr rfl)
    · exact (List.mem_singleton.mp final) ▸ Nat.le_refl _

/-- The least and the greatest of some measurements (R44). -/
theorem least_most {ms : List Measure} (some : ms ≠ []) :
    ∃ a b, leastTicks ms = .some a ∧ mostTicks ms = .some b ∧ a ∈ ms.map Measure.ticks ∧ b ∈ ms.map Measure.ticks ∧
      ∀ m ∈ ms, a ≤ m.ticks ∧ m.ticks ≤ b := by
  have perm := sortedTicks_perm ms
  have nonempty : sortedTicks ms ≠ [] := fun empty => some (by rw [empty] at perm; simpa using perm.symm.eq_nil)
  obtain ⟨a, b, least, most, first, last, between⟩ := ascending_ends (sortedTicks_sorted ms) nonempty
  exact ⟨a, b, least, most, perm.mem_iff.mp first, perm.mem_iff.mp last,
    fun m mem => between _ (perm.mem_iff.mpr (List.mem_map_of_mem mem))⟩

theorem middleTicks_short {ms : List Measure} (short : ms.length < 8) : middleTicks ms = none := if_pos short

end Sys2Proof.Machine

/-! The requests whose work may end a tracking, a calibration, an armed button or a collection. -/

namespace Sys2Proof.Machine

theorem Completed.chan {u t : State} {o : ReqOutcome} (did : Completed u t o) (c : Chan) : t.chan c = u.chan c := by
  rw [State.chan, did.chans]; rfl

theorem Completed.menu {u t : State} {o : ReqOutcome} (did : Completed u t o) (c : Chan) : t.menu c = u.menu c := by
  rw [State.menu, did.menus]; rfl

theorem Completed.blink {u t : State} {o : ReqOutcome} (did : Completed u t o) : sameBlink u t := by
  rw [sameBlink, did.feedback]
  exact ⟨rfl, rfl, rfl, rfl⟩

theorem State.accepts.live {s : State} {r : RequestArgs} (h : s.accepts r) : s.regs.device ≠ .halted := h.1

theorem State.accepts.quiet {s : State} {r : RequestArgs} (h : s.accepts r) : s.busQuiet := h.2.1

theorem State.accepts.wf {s : State} {r : RequestArgs} (h : s.accepts r) : Memory.wf s.mem := by
  obtain ⟨_, _, _, wf, _⟩ := h
  exact wf

/-- A request for an enabled channel in a state that its block refuses is refused, OFF among them. -/
theorem State.forEnabled_refused {s : State} {r : RequestArgs} {c : Chan} {f : Chan → State × ReqOutcome}
    (h : r.channel = chanField c) (refused : (s.chan c).mode ≠ .off → f c = (s, .wrongState)) :
    s.forEnabled r f = (s, .wrongState) := by
  by_cases off : (s.chan c).mode = .off
  · exact State.forEnabled_off f h off
  · rw [State.forEnabled_on f h off, refused off]

/-! ### RELEASE -/

/-- With each tag held once, an entry of the table gives the holder of its tag. -/
theorem holderOf_of_mem {claims : List Claim} (law : claimsLaw claims) {k : Claim} (mem : k ∈ claims) :
    holderOf claims k.tag = some k.holder := by
  have held : (holderOf claims k.tag).isSome := (holderOf_isSome_iff _ _).mpr ⟨k, mem, rfl⟩
  obtain ⟨h, is⟩ := Option.isSome_iff_exists.mp held
  obtain ⟨k', mem', tag, holder⟩ := holderOf_eq_some is
  rw [is, ← holder, List.inj_on_of_nodup_map law.2 mem' mem tag]

theorem holderOf_eq_none {claims : List Claim} {tag : Nat} (free : ∀ k ∈ claims, k.tag ≠ tag) : holderOf claims tag = none := by
  rw [← Option.not_isSome_iff_eq_none, holderOf_isSome_iff]
  rintro ⟨k, mem, is⟩
  exact free k mem is

theorem State.decideRelease_free {s : State} {r : RequestArgs} (free : ∀ k ∈ s.claims.entries, k.tag ≠ r.first.toNat) :
    s.decideRelease r = (s, .notFound) := by rw [State.decideRelease, holderOf_eq_none free]

theorem State.decideRelease_program {s : State} {r : RequestArgs} (held : holderOf s.claims.entries r.first.toNat = some .program) :
    s.decideRelease r = (s.onClaims fun e => e.filter fun k => k.tag != r.first.toNat, .done) := by
  rw [State.decideRelease, held]

theorem State.decideRelease_pen {s : State} {r : RequestArgs} {c : Chan}
    (held : holderOf s.claims.entries r.first.toNat = some (.pen c)) :
    s.decideRelease r = (s.dropTracking c .released, .done) := by rw [State.decideRelease, held]

/-- A tracking ended by a request, where the Log Writer is ready. -/
theorem State.dropTracking_noted {s : State} (quiet : s.busQuiet) (live : s.regs.device ≠ .halted) (ready : s.logReady)
    (wf : Memory.wf s.mem) {c : Chan} {g tag : Nat} (tracked : (s.chan c).tracked = some (g, tag)) (e : EndReason) :
    ∃ m, s.dropTracking c e = ((s.noted m).onClaims fun k => withoutPen k c).onChan c
        (fun x => { x.leaveTracking.goto .watch with results := [] }) ∧
      recorded s (s.noted m) ⟨.chan c, s.beam.frame, { echo := e == .lost && (s.chan c).echoInCentre },
        .trackEnd g tag (s.chan c).centre (loftPoint s.tables g (s.chan c).centre) e (s.chan c).duration⟩ ∧
      sameExcept s (s.noted m) [s.slotRange] := by
  obtain ⟨m, ended, -, made, same⟩ := State.endTracking_noted quiet live ready wf tracked e
  refine ⟨m, ?_, made, same⟩
  rw [State.dropTracking, ended, State.andThen_live _ (by exact live), State.onChan_onChan]

/-- Settles O49: by the holder of the tag. -/
theorem releaseRequest : Obligations.ReleaseRequest := by
  unfold Obligations.ReleaseRequest
  intro s r accepts law tag
  refine ⟨fun free => ⟨_, rfl, State.request_refused accepts (State.decideRelease_free (s := s.takenAt 6 r) free)⟩,
    fun program => ⟨_, rfl, ?_⟩, fun c g pen tracked ready => ⟨s.request 6 r, rfl, ?_⟩⟩
  · have decided : (s.takenAt 6 r).dispatch 6 r = _ :=
      State.decideRelease_program (s := s.takenAt 6 r) (holderOf_of_mem law program)
    obtain ⟨done, noRecord, chans, menus, claims, locks, blink, memory⟩ := State.request_worked accepts decided
    exact ⟨done, claims, noRecord, chans, menus, locks, blink, memory⟩
  · obtain ⟨m, dropped, made, same⟩ := State.dropTracking_noted (s := s.takenAt 6 r) accepts.quiet accepts.live
      (State.takenAt_ready 6 r ready) (State.takenAt_mem 6 r accepts.wf) tracked .released
    have decided : (s.takenAt 6 r).dispatch 6 r = ((s.takenAt 6 r).dropTracking c .released, .done) :=
      State.decideRelease_pen (s := s.takenAt 6 r) (holderOf_of_mem law pen)
    rw [dropped] at decided
    obtain ⟨done, did⟩ := State.request_done accepts decided
    obtain ⟨record, memory⟩ := State.request_recorded did rfl made same
    refine ⟨done, record, did.claims, ?_, ?_, did.menus, did.locks, did.blink, memory⟩
    · rw [did.chan, State.chan_onChan]; rfl
    · rw [did.chan, State.chan_onChan_other]; rfl

/-! ### SUSPEND TRACK and RESUME TRACK -/

/-- Settles O50: each request by the state of its channel, and a resumption by the tip. -/
theorem suspendAndResume : Obligations.SuspendAndResume := by
  unfold Obligations.SuspendAndResume
  intro s r accepts
  refine ⟨fun none => ⟨_, rfl, State.request_refused accepts (State.forEnabled_none (s.takenAt 7 r) _ none)⟩,
    fun none => ⟨_, rfl, State.request_refused accepts (State.forEnabled_none (s.takenAt 8 r) _ none)⟩, ?_⟩
  intro c names keeps
  refine ⟨fun other => ⟨_, rfl, State.request_refused accepts ?_⟩, fun other => ⟨_, rfl, State.request_refused accepts ?_⟩,
    fun mode => ⟨s.request 7 r, rfl, ?_⟩, fun mode tip => ⟨s.request 8 r, rfl, ?_⟩,
    fun g tag mode tip tracked ready => ⟨s.request 8 r, rfl, ?_⟩⟩
  · exact State.forEnabled_refused (s := s.takenAt 7 r) names fun _ => if_neg other
  · exact State.forEnabled_refused (s := s.takenAt 8 r) names fun _ => if_neg other
  · have on : (s.chan c).mode ≠ .off := by simp [mode]
    have decided : (s.takenAt 7 r).dispatch 7 r = ((s.takenAt 7 r).onChan c fun x => x.goto .suspended, .done) :=
      (State.forEnabled_on (s := s.takenAt 7 r) _ names on).trans (if_pos mode)
    obtain ⟨done, noRecord, chans, menus, claims, locks, blink, memory⟩ := State.request_chans accepts decided
    refine ⟨done, noRecord, ?_, claims, ⟨?_, menus, locks, blink⟩, memory⟩
    · rw [State.chan, chans]; exact State.chan_onChan s c fun x => x.goto .suspended
    · rw [State.chan, chans]; exact State.chan_onChan_other s c fun x => x.goto .suspended
  · have on : (s.chan c).mode ≠ .off := by simp [mode]
    have decided : (s.takenAt 8 r).dispatch 8 r =
        ((s.takenAt 8 r).onChan c fun x => { x with mode := .tracking, loss := 0 }, .done) :=
      (State.forEnabled_on (s := s.takenAt 8 r) _ names on).trans ((if_pos mode).trans (if_pos tip))
    obtain ⟨done, noRecord, chans, menus, claims, locks, blink, memory⟩ := State.request_chans accepts decided
    refine ⟨done, noRecord, ?_, claims, ⟨?_, menus, locks, blink⟩, memory⟩
    · rw [State.chan, chans]; exact State.chan_onChan s c fun x => { x with mode := .tracking, loss := 0 }
    · rw [State.chan, chans]; exact State.chan_onChan_other s c fun x => { x with mode := .tracking, loss := 0 }
  · have on : (s.chan c).mode ≠ .off := by simp [mode]
    have released : ¬(s.takenAt 8 r).tipHeld c = true := fun held => by
      rw [show (s.takenAt 8 r).tipHeld c = s.tipHeld c from rfl, tip] at held
      cases held
    obtain ⟨m, dropped, made, same⟩ := State.dropTracking_noted (s := s.takenAt 8 r) accepts.quiet accepts.live
      (State.takenAt_ready 8 r ready) (State.takenAt_mem 8 r accepts.wf) tracked .dropped
    have decided : (s.takenAt 8 r).dispatch 8 r = ((s.takenAt 8 r).dropTracking c .dropped, .done) :=
      (State.forEnabled_on (s := s.takenAt 8 r) _ names on).trans ((if_pos mode).trans (if_neg released))
    rw [dropped] at decided
    obtain ⟨done, did⟩ := State.request_done accepts decided
    obtain ⟨record, memory⟩ := State.request_recorded did rfl made same
    refine ⟨done, record, ?_, ?_, ?_, did.claims, ⟨?_, did.menus, did.locks, did.blink⟩, memory⟩
    · rw [did.chan, State.chan_onChan]; rfl
    · rw [did.chan, State.chan_onChan]; rfl
    · rw [did.chan, State.chan_onChan]; rfl
    · rw [did.chan, State.chan_onChan_other]; rfl

/-! ### CALIBRATE and CANCEL CALIBRATION -/

/-- Settles O51: each request by the state of its channel. -/
theorem calibrateAndCancel : Obligations.CalibrateAndCancel := by
  unfold Obligations.CalibrateAndCancel
  intro s r accepts
  refine ⟨fun none => ⟨_, rfl, State.request_refused accepts (State.forEnabled_none (s.takenAt 9 r) _ none)⟩,
    fun none => ⟨_, rfl, State.request_refused accepts (State.forEnabled_none (s.takenAt 10 r) _ none)⟩, ?_⟩
  intro c names keeps
  refine ⟨fun other => ⟨_, rfl, State.request_refused accepts ?_⟩, fun other => ⟨_, rfl, State.request_refused accepts ?_⟩,
    fun mode => ⟨s.request 9 r, rfl, ?_⟩, fun dot mode tag ready =>
      ⟨s.request 10 r, leastTicks (s.chan c).measures, mostTicks (s.chan c).measures, middleTicks (s.chan c).measures, rfl, ?_⟩⟩
  · exact State.forEnabled_refused (s := s.takenAt 9 r) names fun _ => if_neg other
  · exact State.forEnabled_refused (s := s.takenAt 10 r) names fun _ => if_neg other
  · have on : (s.chan c).mode ≠ .off := by simp [mode]
    have decided : (s.takenAt 9 r).dispatch 9 r =
        ((s.takenAt 9 r).onChan c fun x => x.startCalibration r.first.toNat, .done) :=
      (State.forEnabled_on (s := s.takenAt 9 r) _ names on).trans (if_pos mode)
    obtain ⟨done, noRecord, chans, menus, claims, locks, blink, memory⟩ := State.request_chans accepts decided
    refine ⟨done, noRecord, ?_, ⟨?_, menus, claims, locks, blink⟩, memory⟩
    · rw [State.chan, chans]; exact State.chan_onChan s c fun x => x.startCalibration r.first.toNat
    · rw [State.chan, chans]; exact State.chan_onChan_other s c fun x => x.startCalibration r.first.toNat
  · have on : (s.chan c).mode ≠ .off := by simp [mode]
    obtain ⟨m, ended, -, made, same⟩ := State.endCalibration_noted (s := s.takenAt 10 r) accepts.quiet accepts.live
      (State.takenAt_ready 10 r ready) (State.takenAt_mem 10 r accepts.wf) tag .cancelled .watch
    have decided : (s.takenAt 10 r).dispatch 10 r = ((s.takenAt 10 r).endCalibration c .cancelled .watch, .done) :=
      (State.forEnabled_on (s := s.takenAt 10 r) _ names on).trans (if_pos mode)
    rw [ended] at decided
    obtain ⟨done, did⟩ := State.request_done accepts decided
    obtain ⟨record, memory⟩ := State.request_recorded did rfl made same
    refine ⟨done, record, fun none => ?_, least_most, middleTicks_short, ?_, ⟨?_, did.menus, did.claims, did.locks, did.blink⟩,
      memory⟩
    · rw [none]; exact ⟨leastTicks_nil, mostTicks_nil⟩
    · rw [did.chan, State.chan_onChan]; rfl
    · rw [did.chan, State.chan_onChan_other]; rfl

/-! ### OPEN SHEET and HOME MENU -/

/-- What a request that changes the menu of its channel leaves where nothing is armed. -/
theorem State.request_menu {s : State} {code : BitVec 8} {r : RequestArgs} {c : Chan} {f : Menu → Menu} (accepts : s.accepts r)
    (decided : (s.takenAt code r).dispatch code r = ((s.takenAt code r).onMenu c f, .done)) :
    requestDone s (s.request code r) r .done ∧ (unrecorded s (s.request code r) ∧ sameBlink s (s.request code r) ∧
      sameExcept s (s.request code r) [s.cellRange, s.statusRange]) ∧
      ((s.request code r).menu (otherChan c) = s.menu (otherChan c) ∧ (s.request code r).chans = s.chans ∧
        (s.request code r).claims = s.claims ∧ (s.request code r).locks = s.locks) ∧
      (s.request code r).menu c = f (s.menu c) := by
  obtain ⟨done, noRecord, chans, menus, claims, locks, blink, memory⟩ := State.request_worked accepts decided
  refine ⟨done, ⟨noRecord, blink, memory⟩, ⟨?_, chans, claims, locks⟩, ?_⟩
  · rw [State.menu, menus]; exact State.menu_onMenu_ne s f (otherChan_ne c)
  · rw [State.menu, menus]; exact State.menu_onMenu s c f

/-- What a request that first disarms the button of its channel leaves. -/
theorem State.request_disarmed {s : State} {code : BitVec 8} {r : RequestArgs} {c : Chan} {f : Menu → Menu} {sheet i : Nat}
    {cause : DisarmCause} (accepts : s.accepts r) (armed : (s.menu c).armed = some (sheet, i)) (ready : s.logReady)
    (decided : (s.takenAt code r).dispatch code r =
      (((s.takenAt code r).disarm c cause).andThen fun t => t.onMenu c f, .done)) :
    requestDone s (s.request code r) r .done ∧
      (recorded s (s.request code r) ⟨.chan c, s.beam.frame, {}, s.menuBody c .disarmed sheet i none (some cause)⟩ ∧
        ((s.menu (otherChan c)).armed = none → (s.request code r).feedback.blink = none) ∧
        sameExcept s (s.request code r) [s.cellRange, s.statusRange, s.slotRange]) ∧
      ((s.request code r).menu (otherChan c) = s.menu (otherChan c) ∧ (s.request code r).chans = s.chans ∧
        (s.request code r).claims = s.claims ∧ (s.request code r).locks = s.locks) ∧
      (s.request code r).menu c = f { s.menu c with armed := none, countdown := 0 } := by
  obtain ⟨m, disarmed, -, made, same⟩ := State.disarm_noted (s := s.takenAt code r) accepts.quiet accepts.live
    (State.takenAt_ready code r ready) (State.takenAt_mem code r accepts.wf) armed cause
  let v := (s.takenAt code r).noted m
  have armed' : (v.menu c).armed ≠ none := by rw [show (v.menu c).armed = some (sheet, i) from armed]; nofun
  have menu : (v.clearArmed c).menu c = { s.menu c with armed := none, countdown := 0 } := by
    rw [State.menu_clearArmed, if_neg armed']; rfl
  have other : (v.clearArmed c).menu (otherChan c) = s.menu (otherChan c) := State.menu_clearArmed_ne v (otherChan_ne c)
  have blink := (State.blink_clearArmed armed').1
  obtain ⟨menus, feedback, cleared⟩ := v.clearArmed_eq c
  rw [disarmed, State.andThen_live _ (by rw [cleared]; exact accepts.live)] at decided
  obtain ⟨done, did⟩ := State.request_done accepts decided
  have untouched : recorded (s.takenAt code r) ((v.clearArmed c).onMenu c f)
      ⟨.chan c, s.beam.frame, {}, s.menuBody c .disarmed sheet i none (some cause)⟩ := by rw [cleared]; exact made
  obtain ⟨record, memory⟩ := State.request_recorded did (by rw [State.onMenu_regs, cleared]; rfl)
    untouched (by rw [cleared]; exact same)
  refine ⟨done, ⟨record, fun unarmed => ?_, memory⟩, ⟨?_, ?_, ?_, ?_⟩, ?_⟩
  · rw [did.blink.1]; exact blink unarmed
  · rw [did.menu, State.menu_onMenu_ne _ f (otherChan_ne c), other]
  · rw [did.chans, State.onMenu_chans, cleared]; rfl
  · rw [did.claims, State.onMenu_claims, cleared]; rfl
  · rw [did.locks, State.onMenu_locks, cleared]; rfl
  · rw [did.menu, State.menu_onMenu, menu]

/-- The work of OPEN SHEET and HOME MENU on a channel with nothing armed. -/
theorem State.disarm_onMenu_unarmed {s : State} {c : Chan} (unarmed : (s.menu c).armed = none) (live : s.regs.device ≠ .halted)
    (cause : DisarmCause) (f : Menu → Menu) : ((s.disarm c cause).andThen fun t => t.onMenu c f) = s.onMenu c f := by
  rw [State.disarm_unarmed unarmed, State.andThen_live _ live]

/-- Settles O52: the checks in order, and then the disarming, if any, before the change of the stack. -/
theorem openSheetAndHomeMenu : Obligations.OpenSheetAndHomeMenu := by
  unfold Obligations.OpenSheetAndHomeMenu
  intro s r accepts
  refine ⟨fun none => ⟨_, rfl, State.request_refused accepts (State.forEnabled_none (s.takenAt 11 r) _ none)⟩,
    fun none => ⟨_, rfl, State.request_refused accepts (State.forEnabled_none (s.takenAt 12 r) _ none)⟩, ?_⟩
  intro c names on installed keeps plain disarmed
  have pushes : on → installed → (s.menu c).stack.length < 4 → (s.takenAt 11 r).dispatch 11 r =
      (((s.takenAt 11 r).disarm c .stack).andThen fun t => t.onMenu c fun m => m.push r.first.toNat, .done) :=
    fun enabled known room => (State.forEnabled_on (s := s.takenAt 11 r) _ names enabled).trans
      ((if_neg (Nat.not_le.mpr known)).trans (if_neg (Nat.not_le.mpr room)))
  have cuts : on → (s.takenAt 12 r).dispatch 12 r =
      (((s.takenAt 12 r).disarm c .home).andThen fun t => t.onMenu c Menu.cutHome, .done) :=
    fun enabled => State.forEnabled_on (s := s.takenAt 12 r) _ names enabled
  refine ⟨fun off => ⟨_, rfl, State.request_refused accepts ?_⟩, fun off => ⟨_, rfl, State.request_refused accepts ?_⟩,
    fun enabled missing => ⟨_, rfl, State.request_refused accepts ?_⟩,
    fun enabled known full => ⟨_, rfl, State.request_refused accepts ?_⟩,
    fun enabled known room unarmed => ⟨_, rfl, State.request_menu (f := fun m => m.push r.first.toNat) accepts ?_⟩,
    fun sheet i enabled known room armed ready => ⟨_, rfl,
      State.request_disarmed (f := fun m => m.push r.first.toNat) accepts armed ready (pushes enabled known room)⟩,
    fun enabled unarmed => ⟨_, rfl, State.request_menu (f := Menu.cutHome) accepts ?_⟩,
    fun sheet i enabled armed ready => ⟨_, rfl,
      State.request_disarmed (f := Menu.cutHome) accepts armed ready (cuts enabled)⟩⟩
  · exact State.forEnabled_off (s := s.takenAt 11 r) _ names (not_not.mp off)
  · exact State.forEnabled_off (s := s.takenAt 12 r) _ names (not_not.mp off)
  · exact (State.forEnabled_on (s := s.takenAt 11 r) _ names enabled).trans (if_pos (Nat.not_lt.mp missing))
  · exact (State.forEnabled_on (s := s.takenAt 11 r) _ names enabled).trans
      ((if_neg (Nat.not_le.mpr known)).trans (if_pos full))
  · rw [pushes enabled known room, State.disarm_onMenu_unarmed (s := s.takenAt 11 r) unarmed accepts.live]
  · rw [cuts enabled, State.disarm_onMenu_unarmed (s := s.takenAt 12 r) unarmed accepts.live]

/-! ### COLLECT and END COLLECTION -/

/-- Settles O53: the checks in order. -/
theorem collectRequests : Obligations.CollectRequests := by
  unfold Obligations.CollectRequests
  intro s r accepts
  refine ⟨fun none => ⟨_, rfl, State.request_refused accepts (State.forEnabled_none (s.takenAt 13 r) _ none)⟩,
    fun none => ⟨_, rfl, State.request_refused accepts (State.forEnabled_none (s.takenAt 14 r) _ none)⟩, ?_⟩
  intro c names on n keeps
  have collects : on → 1 ≤ n → n ≤ 16 → (s.takenAt 13 r).dispatch 13 r =
      if (s.chan c).mode = .glare ∨ (s.chan c).collection.isSome then (s.takenAt 13 r, .wrongState)
      else ((s.takenAt 13 r).onChan c fun x => { x with collection := some ⟨n, n, []⟩ }, .done) :=
    fun enabled low high => (State.forEnabled_on (s := s.takenAt 13 r) _ names enabled).trans
      (if_neg (not_or.mpr ⟨Nat.ne_of_gt low, Nat.not_lt.mpr high⟩))
  refine ⟨fun off => ⟨_, rfl, State.request_refused accepts ?_⟩, fun enabled range => ⟨_, rfl, State.request_refused accepts ?_⟩,
    fun enabled low high busy => ⟨_, rfl, State.request_refused accepts ?_⟩,
    fun enabled low high light inactive => ⟨s.request 13 r, rfl, ?_⟩, fun refused => ⟨_, rfl, State.request_refused accepts ?_⟩,
    fun k enabled active ready => ⟨s.request 14 r, rfl, ?_⟩⟩
  · exact State.forEnabled_off (s := s.takenAt 13 r) _ names (not_not.mp off)
  · refine (State.forEnabled_on (s := s.takenAt 13 r) _ names enabled).trans (if_pos (range.imp_left ?_))
    exact Nat.lt_one_iff.mp
  · rw [collects enabled low high]
    exact if_pos (busy.imp_right Option.isSome_iff_ne_none.mpr)
  · have free : ¬((s.chan c).mode = .glare ∨ (s.chan c).collection.isSome = true) := by simp [light, inactive]
    have decided := (collects enabled low high).trans (if_neg free)
    obtain ⟨done, noRecord, chans, menus, claims, locks, blink, memory⟩ := State.request_chans accepts decided
    refine ⟨done, noRecord, ?_, ⟨?_, menus, claims, locks, blink⟩, memory⟩
    · rw [State.chan, chans]; exact State.chan_onChan s c fun x => { x with collection := some ⟨n, n, []⟩ }
    · rw [State.chan, chans]; exact State.chan_onChan_other s c fun x => { x with collection := some ⟨n, n, []⟩ }
  · refine State.forEnabled_refused (s := s.takenAt 14 r) names fun enabled => if_neg ?_
    have inactive : (s.chan c).collection = none := refused.resolve_left fun off => off enabled
    rw [show ((s.takenAt 14 r).chan c).collection = none from inactive]
    nofun
  · obtain ⟨m, ended, -, made, same⟩ := State.endCollection_noted (s := s.takenAt 14 r) accepts.quiet accepts.live
      (State.takenAt_ready 14 r ready) (State.takenAt_mem 14 r accepts.wf) active .ended
    have some : ((s.takenAt 14 r).chan c).collection.isSome = true := Option.isSome_iff_exists.mpr ⟨k, active⟩
    have decided : (s.takenAt 14 r).dispatch 14 r = ((s.takenAt 14 r).endCollection c .ended, .done) :=
      (State.forEnabled_on (s := s.takenAt 14 r) _ names enabled).trans (if_pos some)
    rw [ended] at decided
    obtain ⟨done, did⟩ := State.request_done accepts decided
    obtain ⟨record, memory⟩ := State.request_recorded did rfl made same
    refine ⟨done, record, ?_, ⟨?_, did.menus, did.claims, did.locks, did.blink⟩, memory⟩
    · rw [did.chan, State.chan_onChan]; rfl
    · rw [did.chan, State.chan_onChan_other]; rfl

end Sys2Proof.Machine

/-! The commands that act on one channel: the switches, the end and the onset of glare, and the steps that a frame end owes. -/

namespace Sys2Proof.Machine

/-! ### Work on one channel -/

/-- `t` is `s` with the channel `c` at `y` and the claims at `k`, but for the highlight entries and what the Log Writer reaches. -/
def Within (c : Chan) (s t : State) (y : Channel) (k : List Claim) : Prop :=
  ∃ e, Logged { s.setChan c y with
    claims := { s.claims with entries := k }, feedback := { s.feedback with entry := e } } t

section
variable {s t : State} {c : Chan} {y : Channel} {k : List Claim}

theorem Within.refl (s : State) (c : Chan) : Within c s s (s.chan c) s.claims.entries :=
  ⟨s.feedback.entry, by rw [State.setChan_self]; exact .refl s⟩

theorem Within.logged {u : State} (h : Within c s t y k) (l : Logged t u) : Within c s u y k := by
  obtain ⟨e, before⟩ := h
  exact ⟨e, before.trans l⟩

theorem Within.onChan (h : Within c s t y k) (f : Channel → Channel) : Within c s (t.onChan c f) (f y) k := by
  obtain ⟨e, m, l, cause, lost, rfl, wf⟩ := h
  exact ⟨e, m, l, cause, lost, by cases c <;> rfl, wf⟩

theorem Within.onClaims (h : Within c s t y k) (f : List Claim → List Claim) : Within c s (t.onClaims f) y (f k) := by
  obtain ⟨e, m, l, cause, lost, rfl, wf⟩ := h
  exact ⟨e, m, l, cause, lost, rfl, wf⟩

theorem Within.choose (h : Within c s t y k) (claims : List Claim) (d : Chan) : Within c s (t.choose claims d) y k := by
  obtain ⟨e, m, l, cause, lost, rfl, wf⟩ := h
  exact ⟨e.set d _, m, l, cause, lost, rfl, wf⟩

theorem Within.chooseNow (h : Within c s t y k) (d : Chan) : Within c s (t.chooseNow d) y k := h.choose _ d

theorem Within.chan (h : Within c s t y k) : t.chan c = y := by
  obtain ⟨e, m, l, cause, lost, rfl, wf⟩ := h
  cases c <;> rfl

theorem Within.other (h : Within c s t y k) : t.chan (otherChan c) = s.chan (otherChan c) := by
  obtain ⟨e, m, l, cause, lost, rfl, wf⟩ := h
  cases c <;> rfl

theorem Within.entries (h : Within c s t y k) : t.claims.entries = k := by
  obtain ⟨e, m, l, cause, lost, rfl, wf⟩ := h
  rfl

theorem Within.device (h : Within c s t y k) : t.regs.device = s.regs.device := by
  obtain ⟨e, m, l, cause, lost, rfl, wf⟩ := h
  rfl

theorem Within.live (h : Within c s t y k) (live : s.regs.device ≠ .halted) : t.regs.device ≠ .halted := by
  rw [h.device]; exact live

theorem Within.quiet (h : Within c s t y k) (quiet : s.busQuiet) : t.busQuiet := by
  obtain ⟨e, m, l, cause, lost, rfl, wf⟩ := h
  exact quiet

/-- A step of such work that the device is live for. -/
theorem Within.andThen {f : State → State} {y' : Channel} {k' : List Claim} (h : Within c s t y k) (live : s.regs.device ≠ .halted)
    (next : Within c s (f t) y' k') : Within c s (t.andThen f) y' k' := by
  rw [State.andThen_live _ (h.live live)]
  exact next

end

/-! ### Such work on channels that make records -/

section
variable {s t : State} {c : Chan} {y : Channel} {k : List Claim}

theorem Within.record (h : Within c s t y k) (quiet : s.busQuiet) (n : Notes) (b : Body) : Within c s (t.record c n b) y k :=
  h.logged (State.record_logged (h.quiet quiet) c n b)

theorem Within.missAndGo (h : Within c s t y k) (quiet : s.busQuiet) (live : s.regs.device ≠ .halted) (r : MissReason)
    (element : Option (Nat × Nat)) (echo : Bool) (m : Mode) :
    Within c s (t.missAndGo c r element echo m) (y.leavePressed.goto m) k :=
  Within.andThen (h.record quiet _ _) live ((h.record quiet _ _).onChan fun x => x.leavePressed.goto m)

theorem Within.endCalibration (h : Within c s t y k) (quiet : s.busQuiet) (live : s.regs.device ≠ .halted) (o : CalOutcome)
    (m : Mode) : Within c s (t.endCalibration c o m)
      { y.leaveCalibrating.goto m with lastCal := some (o, (middleTicks y.measures).getD 0) } k := by
  unfold State.endCalibration
  dsimp only
  rw [h.chan]
  exact Within.andThen (h.record quiet _ _) live ((h.record quiet _ _).onChan _)

theorem Within.closeTracking (h : Within c s t y k) (quiet : s.busQuiet) (live : s.regs.device ≠ .halted) (r : EndReason) :
    Within c s (t.closeTracking c r) y (withoutPen k c) := by
  unfold State.closeTracking
  dsimp only
  exact Within.andThen (h.record quiet _ _) live ((h.record quiet _ _).onClaims fun k => withoutPen k c)

theorem Within.endCollection (h : Within c s t y k) (quiet : s.busQuiet) (live : s.regs.device ≠ .halted) (o : SeqOutcome) :
    Within c s (t.endCollection c o) { y with collection := none } k := by
  unfold State.endCollection
  split
  next inactive =>
    rw [h.chan] at inactive
    rw [← inactive]
    exact h
  · exact Within.andThen (h.record quiet _ _) live ((h.record quiet _ _).onChan _)

end

/-! ### Switches -/

/-- With nothing in the way a debounce that completes in RUNNING is handed on. -/
theorem State.debounce_running {s : State} {n : Fin 8} (running : s.regs.device = .running) (still : s.frameQuiet)
    (timed : (s.inputs.get n).timer ≠ none) :
    exec (.debounceCompletion n) s =
      .next ((s.setInput n ⟨(s.inputs.get n).raw, (s.inputs.get n).raw, none⟩).handOn n (s.inputs.get n).raw) := by
  refine congrArg Host.Outcome.next ?_
  rw [State.settle_quiet still, State.andThen_live _ (by simp [running]), if_pos (Option.isSome_iff_ne_none.mpr timed)]
  exact if_pos running

/-- Settles O42: the switch passes an AWAKE monitor, and the press it is opens the window. -/
theorem pressOpensWindow : Obligations.PressOpensWindow := by
  unfold Obligations.PressOpensWindow
  intro s n c r running still timed raw input allowed watch awake
  let u := s.setInput n ⟨(s.inputs.get n).raw, (s.inputs.get n).raw, none⟩
  let v : State := { u with idle := ⟨false, 0⟩ }
  have handed : u.handOn n (s.inputs.get n).raw = v.pressChan c r := by
    have reached : u.penInput n = some (c, r) := input
    have presented : u.present .penSwitch = (true, v) := by
      rw [State.present_eq, State.passes_awake (s := u) _ awake, State.wakened_awake (s := u) _ awake]
    rw [State.handOn, reached]
    change u.penSwitch c r (s.inputs.get n).raw = _
    rw [State.penSwitch, presented, raw]
    exact if_pos allowed
  have within := ((Within.refl v c).onChan fun x => { x with
    mode := .pressed, windowCount := (s.chanConfig c).pressWindow, windowFrames := 0
    press := some ⟨r, s.beam.frame, s.beam.clock⟩, stage := .noStrike, windowResults := 0, windowEcho := false }).chooseNow c
  have pressed : v.pressChan c r = _ := if_pos watch
  refine ⟨_, (State.debounce_running running still timed).trans (congrArg Host.Outcome.next (handed.trans pressed)), within.chan,
    ?_, ?_, fun m other => ?_, rfl, within.other, rfl, rfl, rfl⟩
  · exact (congrArg Switch.level (s.get_setInput n n _)).trans (by rw [if_pos rfl]; exact raw)
  · exact (congrArg Switch.timer (s.get_setInput n n _)).trans (by rw [if_pos rfl])
  · exact (s.get_setInput n m _).trans (if_neg other.symm)

/-- Settles O43: the change passes the monitor or not, and the mask selects it or not. -/
theorem consoleSwitchRecord : Obligations.ConsoleSwitchRecord := by
  unfold Obligations.ConsoleSwitchRecord
  intro s n running still quiet ready wf timed console passed
  let u := s.setInput n ⟨(s.inputs.get n).raw, (s.inputs.get n).raw, none⟩
  let v : State := { u with idle := u.wakened .consoleSwitch }
  have level : (u.inputs.get n).level = (s.inputs.get n).raw := by rw [State.get_setInput, if_pos rfl]
  have passes : u.passes .consoleSwitch = true ↔ passed := by
    rw [State.passes, Bool.or_eq_true, Bool.not_eq_true']
    exact Iff.rfl
  have handed : u.handOn n (s.inputs.get n).raw = if passed ∧ s.config.reportMask.getLsbD n.val = true then
      v.place ⟨.console, s.beam.frame, {}, .switch n.val (s.inputs.get n).raw⟩ else v := by
    have unassigned : u.penInput n = none := console
    rw [State.handOn, unassigned]
    change u.consoleSwitch n (s.inputs.get n).raw = _
    rw [State.consoleSwitch, State.present_eq]
    cases pass : u.passes .consoleSwitch with
    | false => rw [if_neg fun h => Bool.false_ne_true (pass.symm.trans (passes.mpr h.1))]
    | true =>
      cases mask : s.config.reportMask.getLsbD n.val with
      | false =>
        rw [if_neg fun h => nomatch h.2]
        exact if_neg (by rw [show v.config.reportMask.getLsbD n.val = false from mask]; decide)
      | true =>
        rw [if_pos ⟨passes.mp pass, rfl⟩]
        exact if_pos mask
  have ran := (State.debounce_running running still timed).trans (congrArg Host.Outcome.next handed)
  by_cases reports : passed ∧ s.config.reportMask.getLsbD n.val = true
  · rw [if_pos reports] at ran
    obtain ⟨m, placed, -, made, same⟩ := State.place_noted (s := v) quiet (by simp [v, u, running]) ready wf
      ⟨.console, s.beam.frame, {}, .switch n.val (s.inputs.get n).raw⟩
    rw [placed] at ran
    refine ⟨_, ran, level, fun _ _ => ⟨made, same⟩, fun none => ?_, rfl, rfl, rfl⟩
    exact none.elim (absurd reports.1) fun mask => nomatch mask.symm.trans reports.2
  · rw [if_neg reports] at ran
    exact ⟨_, ran, level, fun pass mask => absurd ⟨pass, mask⟩ reports, fun _ => ⟨⟨rfl, rfl, rfl⟩, rfl⟩, rfl, rfl, rfl⟩

/-! ### The end and the onset of glare -/

/-- The line of an enabled channel in RUNNING leaves its active level. -/
theorem State.lineLeaves_running {s : State} {c : Chan} (running : s.regs.device = .running) (still : s.frameQuiet)
    (on : (s.chan c).mode ≠ .off) :
    s.lineLeaves c = (let u := s.onChan c fun x =>
        { x with lineHigh := !(s.chanConfig c).edge.activeHigh, glareTimer := none }
      if (s.chan c).mode = .glare then u.glareEnds c else u) := by
  let t := s.onChan c fun x => { x with lineHigh := !(s.chanConfig c).edge.activeHigh }
  have mode : (t.chan c).mode = (s.chan c).mode := by rw [State.chan_onChan]
  have enabled : (t.chan c).mode.enabled = true := by rw [mode]; exact bne_iff_ne.mpr on
  rw [State.lineLeaves, State.settle_quiet (by exact still), State.andThen_live _ (by rw [State.onChan_regs, running]; nofun)]
  refine (if_pos ⟨running, enabled⟩).trans ?_
  dsimp only
  rw [State.onChan_onChan, State.chan_onChan]

/-- Settles O22: in GLARE the record comes first, and then the channel goes to WATCH. -/
theorem lineLeavesActiveLevel : Obligations.LineLeavesActiveLevel := by
  unfold Obligations.LineLeavesActiveLevel
  intro s c running still on high
  have leaves := State.lineLeaves_running running still on
  refine ⟨fun light => congrArg Host.Outcome.next (leaves.trans (if_neg light)), fun glare quiet ready wf => ?_⟩
  let u := s.onChan c fun x => { x with lineHigh := high, glareTimer := none }
  have live : u.regs.device ≠ .halted := by rw [State.onChan_regs, running]; nofun
  have counts : (u.chan c).glareFrames = (s.chan c).glareFrames ∧ (u.chan c).reminders = (s.chan c).reminders := by
    rw [State.chan_onChan]; exact ⟨rfl, rfl⟩
  obtain ⟨m, placed, -, made, same⟩ := State.record_noted (s := u) quiet live ready wf c {}
    (.glareEnd (s.chan c).glareFrames (s.chan c).reminders)
  have ends : u.glareEnds c = ((u.noted m).onChan c fun x => { x with mode := .watch, table := [], pendingStrikes := [] }).chooseNow c := by
    rw [State.glareEnds, counts.1, counts.2, placed, State.andThen_live (s := u.noted m) _ live]
    exact State.andThen_live _ live
  refine ⟨_, congrArg Host.Outcome.next (leaves.trans ((if_pos glare).trans ends)), made, ?_, ?_, rfl, rfl, rfl, same⟩
  · cases c <;> rfl
  · cases c <;> rfl

/-- The first work of glare onset: what the channel has seen is discarded. -/
def Channel.unseen (x : Channel) : Channel := { x with pendingStrikes := [], results := [], table := [] }

/-- What step 3 of R26 makes of the channel. -/
def Channel.glareLeft (x : Channel) : Channel :=
  match x.mode with
  | .pressed => x.leavePressed.goto .pressed
  | .calibrating => { x.leaveCalibrating.goto .calibrating with lastCal := some (.glare, (middleTicks x.measures).getD 0) }
  | .off | .watch | .tracking | .suspended | .glare => x

/-- The work that glare ends, in the state that it ends. -/
theorem Within.glareEndsWork {s t : State} {c : Chan} {y : Channel} {k : List Claim} (h : Within c s t y k) (quiet : s.busQuiet)
    (live : s.regs.device ≠ .halted) : Within c s (t.glareEndsWork c) y.glareLeft
      (if y.mode = .tracking ∨ y.mode = .suspended then withoutPen k c else k) := by
  unfold State.glareEndsWork Channel.glareLeft
  rw [h.chan]
  cases y.mode with
  | off => exact h
  | watch => exact h
  | pressed => exact h.missAndGo quiet live _ _ _ _
  | calibrating => exact h.endCalibration quiet live _ _
  | tracking => exact h.closeTracking quiet live _
  | suspended => exact h.closeTracking quiet live _
  | glare => exact h

/-- Glare onset as a whole. -/
theorem State.glareBegins_within {s : State} (c : Chan) (quiet : s.busQuiet) (live : s.regs.device ≠ .halted) :
    Within c s (s.glareBegins c) (Channel.enterGlare { (s.chan c).unseen.glareLeft with collection := none })
      (if (s.chan c).mode = .tracking ∨ (s.chan c).mode = .suspended then withoutPen s.claims.entries c
        else s.claims.entries) := by
  have cut := ((Within.refl s c).onChan Channel.unseen).chooseNow c
  have ended := cut.glareEndsWork quiet live
  have collected := ended.andThen (f := fun t => t.endCollection c .aborted) live (ended.endCollection quiet live .aborted)
  have entered := collected.andThen (f := fun t => (t.onChan c Channel.enterGlare).chooseNow c) live
    ((collected.onChan Channel.enterGlare).chooseNow c)
  exact entered.andThen (f := fun t => t.record c {} (.glare 0)) live (entered.record quiet {} (.glare 0))

/-- Glare onset in WATCH with no collection makes one record. -/
theorem State.glareBegins_watch {s : State} {c : Chan} (quiet : s.busQuiet) (live : s.regs.device ≠ .halted) (ready : s.logReady)
    (wf : Memory.wf s.mem) (watch : (s.chan c).mode = .watch) (inactive : (s.chan c).collection = none) :
    recorded s (s.glareBegins c) ⟨.chan c, s.beam.frame, {}, .glare 0⟩ ∧ sameExcept s (s.glareBegins c) [s.slotRange] := by
  let u := (s.onChan c Channel.unseen).chooseNow c
  let v := (u.onChan c Channel.enterGlare).chooseNow c
  have chan : u.chan c = (s.chan c).unseen := State.chan_onChan s c Channel.unseen
  have noWork : u.glareEndsWork c = u := by rw [State.glareEndsWork, chan, show (s.chan c).unseen.mode = .watch from watch]
  have noEnd : u.endCollection c .aborted = u := State.endCollection_inactive (by rw [chan]; exact inactive) _
  obtain ⟨m, placed, -, made, same⟩ := State.record_noted (s := v) quiet live ready wf c {} (.glare 0)
  have begins : s.glareBegins c = v.noted m := by
    change (((u.glareEndsWork c).andThen fun t => t.endCollection c .aborted).andThen fun t =>
      (t.onChan c Channel.enterGlare).chooseNow c).andThen _ = _
    rw [noWork, State.andThen_live (s := u) _ live, noEnd, State.andThen_live (s := u) _ live]
    exact (State.andThen_live (s := v) _ live).trans placed
  rw [begins]
  exact ⟨made, same⟩

/-- Settles O23: the steps of R26 in turn. -/
theorem glareOnsetEntersGlare : Obligations.GlareOnsetEntersGlare := by
  unfold Obligations.GlareOnsetEntersGlare
  intro s c running still quiet on light timed
  have live : s.regs.device ≠ .halted := by simp [running]
  have can : s.canGlare c = true := by
    simp [State.canGlare, running, Mode.enabled, on, light, Option.isSome_iff_ne_none.mpr timed]
  have ran : exec (.glareOnset c) s = .next (s.glareBegins c) := by
    refine congrArg Host.Outcome.next ((if_pos can).trans ?_)
    rw [State.settleAll_quiet still, State.andThen_live _ live]
  have within := State.glareBegins_within c quiet live
  have record := fun ready wf => State.glareBegins_watch (c := c) quiet live ready wf
  have chan := within.chan
  have other := within.other
  have entries := within.entries
  obtain ⟨e, m, l, cause, lost, is, -⟩ := within
  refine ⟨_, ran, ?_⟩
  rw [chan, other, entries]
  refine ⟨rfl, ?_, ?_, ?_, rfl, rfl, rfl, rfl, rfl, rfl, fun mode => ?_, fun mode => ?_, rfl, ?_, ?_, by rw [is]; rfl, by rw [is]; rfl,
    by rw [is]; rfl, by rw [is]; rfl, by rw [is]; rfl, rfl, record⟩
  · unfold Channel.glareLeft; split <;> rfl
  · unfold Channel.glareLeft; split <;> rfl
  · unfold Channel.glareLeft; split <;> rfl
  · rw [Channel.glareLeft, show (s.chan c).unseen.mode = .calibrating from mode]; rfl
  · rw [Channel.glareLeft, show (s.chan c).unseen.mode = .pressed from mode]; exact ⟨rfl, rfl⟩
  · unfold Channel.glareLeft; split <;> rfl
  · unfold Channel.glareLeft; split <;> rfl

end Sys2Proof.Machine

/-! The steps that a frame end leaves owed: the glare reminder, TOO FEW, MISS and LOST. -/

namespace Sys2Proof.Machine

/-! ### The end of a frame end -/

/-- What the end of a frame end leaves: all but the status section and the model's own record of the frame end. -/
structure Finished (s t : State) : Prop where
  chans : t.chans = s.chans := by rfl
  menus : t.menus = s.menus := by rfl
  beam : t.beam = s.beam := by rfl
  entries : t.claims.entries = s.claims.entries := by rfl
  asks : t.claims.asks = s.claims.asks := by rfl
  feedback : t.feedback = s.feedback := by rfl
  loader : t.loader = s.loader := by rfl
  locks : t.locks = s.locks := by rfl
  inputs : t.inputs = s.inputs := by rfl
  idle : t.idle = s.idle := by rfl
  requests : t.requests = s.requests := by rfl
  device : t.regs.device = s.regs.device := by rfl
  busFault : t.busFault = s.busFault := by rfl
  unheard : Unheard s t [s.statusRange]
  work : t.work = s.work ∨ t.work = FrameWork.none
  owed : ∀ c, t.work.owed.get c = s.work.owed.get c
  expiry : ∀ c, t.work.expiry.get c = s.work.expiry.get c
  period : t.work.period = s.work.period

theorem State.unheard_status (s : State) : Unheard s (s.writeArea 0x40 (statusImage s)) [s.statusRange] where
  memory := fun _ clear => State.read_writeArea_out _ _ _ (by simpa [State.statusRange, length_statusImage] using clear s.statusRange (by simp))

theorem State.finishFrame_quiet {s : State} (quiet : s.busQuiet) (live : s.regs.device ≠ .halted) :
    s.finishFrame = if s.frameDone then { s.writeArea 0x40 (statusImage s) with
      work := FrameWork.none, claims := { s.claims with atClose := none } } else s := by
  unfold State.finishFrame
  rw [State.writeStatus_quiet quiet]
  refine if_congr Iff.rfl ?_ rfl
  exact State.andThen_live _ live

/-- Where only the status write is left nothing is owed. -/
theorem State.frameDone_nothing {s : State} (done : s.frameDone = true) :
    (∀ c, s.work.owed.get c = none) ∧ (∀ c, s.work.expiry.get c = false) ∧ s.work.period = false := by
  simp only [State.frameDone, Bool.and_eq_true, Option.isNone_iff_eq_none, Bool.not_eq_true'] at done
  obtain ⟨⟨⟨⟨⟨⟨⟨-, owedA⟩, owedB⟩, expiryA⟩, expiryB⟩, period⟩, -⟩, -⟩ := done
  refine ⟨fun c => ?_, fun c => ?_, period⟩
  · cases c with
    | a => exact owedA
    | b => exact owedB
  · cases c with
    | a => exact expiryA
    | b => exact expiryB

theorem State.finishFrame_finished {s : State} (quiet : s.busQuiet) (live : s.regs.device ≠ .halted) : Finished s s.finishFrame := by
  rw [State.finishFrame_quiet quiet live]
  have same := s.unheard_status.memory
  generalize statusImage s = image at same ⊢
  split
  next done =>
    obtain ⟨owed, expiry, period⟩ := State.frameDone_nothing done
    have none : ∀ c, FrameWork.none.owed.get c = none ∧ FrameWork.none.expiry.get c = false := fun c => by cases c <;> exact ⟨rfl, rfl⟩
    exact { unheard := { memory := same }, work := .inr rfl, owed := fun c => (none c).1.trans (owed c).symm,
            expiry := fun c => (none c).2.trans (expiry c).symm, period := period.symm }
  · exact { unheard := {}, work := .inl rfl, owed := fun _ => rfl, expiry := fun _ => rfl, period := rfl }

theorem Finished.chan {s t : State} (h : Finished s t) (c : Chan) : t.chan c = s.chan c := congrArg (Pair.get · c) h.chans

theorem Finished.menu {s t : State} (h : Finished s t) (c : Chan) : t.menu c = s.menu c := congrArg (Pair.get · c) h.menus

/-! ### An owed step -/

/-- What an owed step does, without the choice of the highlight that ends it. -/
def State.payOwed (s : State) (c : Chan) : Owed → State
  | .reminder => s.doReminder c
  | .tooFew => s.doTooFew c
  | .miss => s.doMiss c
  | .lost => s.doLost c

theorem State.doOwed_eq {s : State} {c : Chan} {o : Owed} (owes : s.work.owed.get c = some o) :
    s.doOwed c = (s.payOwed c o).andThen fun t => t.choose t.closeClaims c := by
  rw [State.doOwed, owes]
  cases o <;> rfl

/-- The step as the command takes it. -/
theorem State.stepOwed_eq {s u : State} {c : Chan} {o : Owed} (running : s.regs.device = .running)
    (owes : s.work.owed.get c = some o) (paid : s.payOwed c o = u) (live : u.regs.device ≠ .halted) :
    s.stepOwed c o = (u.choose u.closeClaims c).finishFrame := by
  rw [State.stepOwed, if_pos ⟨running, owes⟩, State.doOwed_eq owes, paid, State.andThen_live (s := u) _ live]
  exact State.andThen_live _ live

/-- An owed step whose work is one record: the record stands, the step is no longer owed, and the rest is as the work left it. -/
theorem State.stepOwed_recorded {s u : State} {c : Chan} {o : Owed} {r : Record} (running : s.regs.device = .running)
    (owes : s.work.owed.get c = some o) (paid : s.payOwed c o = u) (quiet : u.busQuiet) (device : u.regs.device = s.regs.device)
    (base : u.regs.areaBase = s.regs.areaBase) (work : u.work = (s.owe c none).work) (made : recorded s u r)
    (same : sameExcept s u [s.slotRange]) :
    recorded s (s.stepOwed c o) r ∧ (∀ d, (s.stepOwed c o).chan d = u.chan d) ∧ (s.stepOwed c o).work.owed.get c = none ∧
      (s.stepOwed c o).beam = u.beam ∧ (s.stepOwed c o).menus = u.menus ∧
      (s.stepOwed c o).claims.entries = u.claims.entries ∧ sameExcept s (s.stepOwed c o) [s.slotRange, s.statusRange] := by
  have live : u.regs.device ≠ .halted := by rw [device, running]; nofun
  rw [State.stepOwed_eq running owes paid live]
  have done := State.finishFrame_finished (s := u.choose u.closeClaims c) quiet live
  have unheard : Unheard u (u.choose u.closeClaims c).finishFrame [u.statusRange] :=
    ⟨done.unheard.log, done.unheard.cause, done.unheard.lost, done.unheard.base, done.unheard.memory⟩
  have status : u.statusRange = s.statusRange := by rw [State.statusRange, State.area, base]; rfl
  refine ⟨made.unheard unheard, done.chan, ?_, done.beam, done.menus, done.entries, ?_⟩
  · obtain kept | cleared := done.work
    · rw [kept]
      exact (congrArg (fun w => w.owed.get c) work).trans (by rw [State.owe, Pair.get_set, if_pos rfl])
    · rw [cleared]
      cases c <;> rfl
  · have all := same.trans unheard.memory
    rw [status] at all
    exact all

/-- Settles O24: the reminder count first, then the record that shows it. -/
theorem glareReminderRecord : Obligations.GlareReminderRecord := by
  unfold Obligations.GlareReminderRecord
  intro s c running quiet ready wf glare owes
  let f : Channel → Channel := fun x => { x with reminders := min (x.reminders + 1) 65535 }
  let u := (s.owe c none).onChan c f
  have live : u.regs.device ≠ .halted := by rw [show u.regs = s.regs from rfl, running]; nofun
  obtain ⟨m, placed, -, made, same⟩ := State.record_noted (s := u) quiet live ready wf c {} (.glare (u.chan c).reminders)
  have count : (u.chan c).reminders = min ((s.chan c).reminders + 1) 65535 := congrArg Channel.reminders (State.chan_onChan _ c f)
  rw [count] at made
  obtain ⟨record, chan, owed, beam, menus, entries, rest⟩ :=
    State.stepOwed_recorded (u := u.noted m) running owes placed quiet rfl rfl rfl made same
  exact ⟨_, rfl, record, (chan c).trans (State.chan_onChan (s.owe c none) c f), owed,
    (chan _).trans (State.chan_onChan_other (s.owe c none) c f), beam, menus, entries, rest⟩

/-- Settles O32: the end of tracking with LOST. -/
theorem lostEndsTracking : Obligations.LostEndsTracking := by
  unfold Obligations.LostEndsTracking
  intro s c g tag running quiet ready wf tracking tracked owes
  have live : (s.owe c none).regs.device ≠ .halted := by rw [show (s.owe c none).regs = s.regs from rfl, running]; nofun
  obtain ⟨m, paid, -, made, same⟩ := State.endTracking_noted (s := s.owe c none) quiet live ready wf tracked .lost
  obtain ⟨record, chan, owed, beam, menus, entries, rest⟩ :=
    State.stepOwed_recorded running owes paid quiet rfl rfl rfl made same
  exact ⟨_, rfl, record, (chan c).trans (State.chan_onChan _ c _), entries, owed, (chan _).trans (State.chan_onChan_other _ c _), beam, menus, rest⟩

/-- Settles O33: the end of the calibration with TOO FEW. -/
theorem tooFewEndsCalibration : Obligations.TooFewEndsCalibration := by
  unfold Obligations.TooFewEndsCalibration
  intro s c dot running quiet ready wf calibrating tag short spent owes
  have live : (s.owe c none).regs.device ≠ .halted := by rw [show (s.owe c none).regs = s.regs from rfl, running]; nofun
  obtain ⟨m, paid, -, made, same⟩ := State.endCalibration_noted (s := s.owe c none) quiet live ready wf tag .tooFew .watch
  have none : middleTicks ((s.owe c none).chan c).measures = none := middleTicks_short short
  have budget : ((s.owe c .none).chan c).budget = 0 := spent
  rw [none, budget] at made
  rw [none] at paid
  obtain ⟨record, chan, owed, beam, menus, entries, rest⟩ :=
    State.stepOwed_recorded running owes paid quiet rfl rfl rfl made same
  refine ⟨_, leastTicks (s.chan c).measures, mostTicks (s.chan c).measures, rfl, record, fun empty => ?_, least_most,
    (chan c).trans (State.chan_onChan _ c _), owed, (chan _).trans (State.chan_onChan_other _ c _), beam, entries, rest⟩
  rw [empty]
  exact ⟨leastTicks_nil, mostTicks_nil⟩

/-- A press window that ends with a MISS: its record, and the channel in its next state without the window's values. -/
theorem State.missAndGo_noted {s : State} (quiet : s.busQuiet) (live : s.regs.device ≠ .halted) (ready : s.logReady)
    (wf : Memory.wf s.mem) {c : Chan} {p : Press} (press : (s.chan c).press = some p) (r : MissReason)
    (element : Option (Nat × Nat)) (echo : Bool) (next : Mode) :
    ∃ m, s.missAndGo c r element echo next = (s.noted m).onChan c (fun x => x.leavePressed.goto next) ∧ Memory.wf m ∧
      recorded s (s.noted m) ⟨.chan c, s.beam.frame, { echo := (s.chan c).windowEcho || echo },
        .miss r (s.chan c).stage p.role (s.chan c).windowFrames (s.chan c).windowResults element⟩ ∧
      sameExcept s (s.noted m) [s.slotRange] := by
  obtain ⟨m, placed, kept, made, same⟩ := State.record_noted quiet live ready wf c { echo := (s.chan c).windowEcho || echo }
    (.miss r (s.chan c).stage p.role (s.chan c).windowFrames (s.chan c).windowResults element)
  have missed : s.recordMiss c r element echo = s.noted m := by
    unfold State.recordMiss
    dsimp only
    rw [press]
    exact placed
  refine ⟨m, ?_, kept, made, same⟩
  rw [State.missAndGo, missed]
  exact State.andThen_live _ live

/-- The MISS that a press window which found nothing owes. -/
theorem State.miss_recorded {s : State} {c : Chan} {p : Press} (running : s.regs.device = .running) (quiet : s.busQuiet)
    (ready : s.logReady) (wf : Memory.wf s.mem) (press : (s.chan c).press = some p) (owes : s.work.owed.get c = some .miss) :
    ∃ t, exec (.miss c) s = .next t ∧
      recorded s t ⟨.chan c, s.beam.frame, { echo := (s.chan c).windowEcho },
        .miss (.stage (s.chan c).stage) (s.chan c).stage p.role (s.chan c).windowFrames (s.chan c).windowResults none⟩ ∧
      t.chan c = (s.chan c).leavePressed.goto .watch ∧
      t.work.owed.get c = none ∧ t.chan (otherChan c) = s.chan (otherChan c) ∧ t.beam = s.beam ∧ t.menus = s.menus ∧
      t.claims.entries = s.claims.entries ∧ sameExcept s t [s.slotRange, s.statusRange] := by
  have live : (s.owe c none).regs.device ≠ .halted := by rw [show (s.owe c none).regs = s.regs from rfl, running]; nofun
  obtain ⟨m, paid, -, made, same⟩ := State.missAndGo_noted (s := s.owe c none) quiet live ready wf press
    (.stage (s.chan c).stage) none false .watch
  rw [Bool.or_false] at made
  obtain ⟨record, chan, owed, beam, menus, entries, rest⟩ :=
    State.stepOwed_recorded running owes paid quiet rfl rfl rfl made same
  exact ⟨_, rfl, record, (chan c).trans (State.chan_onChan _ c _), owed, (chan _).trans (State.chan_onChan_other _ c _), beam, menus, entries, rest⟩

/-! ### The calibration that finishes -/

theorem isRounded_meanRounded {vs : List Nat} (some : vs ≠ []) : isRounded (meanRounded vs) (vs.sum : Nat) vs.length := by
  have up : (0 : Int) ≤ roundDiv (vs.sum : Nat) vs.length := by
    rw [roundDiv, if_neg (by omega)]
    exact Int.natCast_nonneg _
  rw [meanRounded, Int.toNat_of_nonneg up]
  exact isRounded_roundDiv _ (List.length_pos_iff.mpr some)

theorem sortedTicks_eq {ms : List Measure} {v : List Nat} (ascending : v.Pairwise (· ≤ ·)) (perm : v.Perm (ms.map Measure.ticks)) :
    sortedTicks ms = v :=
  List.Perm.eq_of_pairwise (fun _ _ _ _ => Nat.le_antisymm) (sortedTicks_sorted ms) ascending ((sortedTicks_perm ms).trans perm.symm)

/-- Settles O34: the sorted ticks are the given list, and the ends and the middle are read off it. -/
theorem calibrationFinishes : Obligations.CalibrationFinishes := by
  unfold Obligations.CalibrationFinishes
  intro s c v running quiet eight ascending perm
  have live : s.regs.device ≠ .halted := by rw [running]; nofun
  have sorted : sortedTicks (s.chan c).measures = v := sortedTicks_eq ascending perm
  have length : v.length = 8 := perm.length_eq.trans (by simpa using eight)
  have middle : middleTicks (s.chan c).measures = some (meanRounded [v.getD 3 0, v.getD 4 0]) := by
    rw [middleTicks, if_neg (by rw [eight]; decide), sorted]
  have spread : steady (s.chan c).measures = decide (v.getD 7 0 - v.getD 0 0 ≤ 64) := by
    rw [steady, mostTicks, leastTicks, sorted, List.getLast?_eq_getElem?, List.head?_eq_getElem?, length]
    rfl
  let f : Channel → Channel := fun x => { x with budget := x.budget - 1 }
  let t := s.onChan c f
  have lowered := (Within.refl s c).onChan f
  have measures : (t.chan c).measures = (s.chan c).measures := (congrArg Channel.measures lowered.chan).trans rfl
  have finishes : s.calibrationFrame c = t.finishCalibration c :=
    if_pos (by rw [measures, eight]; decide)
  rw [finishes]
  refine ⟨meanRounded [v.getD 3 0, v.getD 4 0], by simpa using isRounded_meanRounded (vs := [v.getD 3 0, v.getD 4 0]) nofun, ?_⟩
  unfold State.finishCalibration
  dsimp only
  rw [measures, spread, middle]
  simp only [Option.getD_some]
  by_cases close : v.getD 7 0 - v.getD 0 0 ≤ 64
  · rw [if_pos (decide_eq_true close)]
    have ended := (lowered.onChan fun x => { x with delay := meanRounded [v.getD 3 0, v.getD 4 0] }).endCalibration quiet live .set .watch
    dsimp only at ended
    rw [middle] at ended
    rw [ended.chan]
    exact ⟨rfl, rfl, fun _ => ⟨rfl, rfl⟩, fun far => absurd close (by omega), ended.other⟩
  · rw [if_neg (by simpa using close)]
    have ended := lowered.endCalibration quiet live .unsteady .watch
    dsimp only at ended
    rw [middle] at ended
    rw [ended.chan]
    exact ⟨rfl, rfl, fun near => absurd near close, fun _ => ⟨rfl, rfl⟩, ended.other⟩

end Sys2Proof.Machine

/-! The order of R88, the blink period and what the Feedback Unit presents. -/

namespace Sys2Proof.Machine

/-! ### The best entry of a list -/

/-- `q` comes before `y` in the order of R88. -/
def Tables.ahead (t : Tables) (q y : Qual) : Prop :=
  t.pickClass y.group < t.pickClass q.group ∨
    (t.pickClass y.group = t.pickClass q.group ∧ (y.sightings.length < q.sightings.length ∨
      (y.sightings.length = q.sightings.length ∧ q.latestOffset < y.latestOffset)))

/-- The order of R88 does not tell `q` from `y`. -/
def Tables.level (t : Tables) (q y : Qual) : Prop :=
  t.pickClass y.group = t.pickClass q.group ∧ y.sightings.length = q.sightings.length ∧ q.latestOffset = y.latestOffset

theorem betterQual_iff {t : Tables} {early late : Qual} :
    betterQual t early late = true ↔ t.ahead late early ∨ t.level late early := by
  unfold betterQual Tables.ahead Tables.level
  dsimp only
  split
  · rw [decide_eq_true_iff]; omega
  · split
    · rw [decide_eq_true_iff]; omega
    · rw [decide_eq_true_iff]; omega

theorem betterQual_eq_false_iff {t : Tables} {early late : Qual} : betterQual t early late = false ↔ t.ahead early late := by
  rw [← Bool.not_eq_true, betterQual_iff]
  unfold Tables.ahead Tables.level
  omega

theorem betterQual_trans {t : Tables} {x y z : Qual} (h : betterQual t x y = true) (k : betterQual t y z = true) :
    betterQual t x z = true := by
  rw [betterQual_iff] at h k ⊢
  unfold Tables.ahead Tables.level at h k ⊢
  omega

theorem betterQual_of_ahead {t : Tables} {x y : Qual} (h : t.ahead y x) : betterQual t x y = true := betterQual_iff.mpr (.inl h)

/-- `q` is the best of a list in table order: it comes before what stands after it, and nothing that stands before it comes before it. -/
def Tables.isBest (t : Tables) (qs : List Qual) (q : Qual) : Prop :=
  ∃ pre post, qs = pre ++ q :: post ∧ (∀ y ∈ pre, betterQual t y q = true) ∧ ∀ y ∈ post, betterQual t q y = false

/-- One more entry, which takes the place of the best so far or does not. -/
theorem Tables.isBest_append {t : Tables} {qs : List Qual} {q : Qual} (h : t.isBest qs q) (x : Qual) :
    t.isBest (qs ++ [x]) (if betterQual t q x then x else q) := by
  obtain ⟨pre, post, rfl, notAfter, after⟩ := h
  split
  next beats =>
    refine ⟨pre ++ q :: post, [], rfl, fun y mem => ?_, nofun⟩
    rcases List.mem_append.mp mem with early | rest
    · exact betterQual_trans (notAfter y early) beats
    · rcases List.mem_cons.mp rest with rfl | late
      · exact beats
      · exact betterQual_trans (betterQual_of_ahead (betterQual_eq_false_iff.mp (after y late))) beats
  next stays =>
    refine ⟨pre, post ++ [x], by simp, notAfter, fun y mem => ?_⟩
    rcases List.mem_append.mp mem with late | last
    · exact after y late
    · rw [List.mem_singleton.mp last]
      exact Bool.eq_false_iff.mpr stays

theorem Tables.isBest_foldl (t : Tables) (q : Qual) (qs : List Qual) :
    t.isBest (q :: qs) (qs.foldl (fun best x => if betterQual t best x then x else best) q) := by
  induction qs using List.reverseRecOn with
  | nil => exact ⟨[], [], rfl, nofun, nofun⟩
  | append_singleton qs x ih =>
    rw [List.foldl_append]
    exact Tables.isBest_append ih x

theorem bestQual_nil (t : Tables) : bestQual t [] = none := rfl

/-- The best of a list that is not empty, in the words of R88. -/
theorem bestQual_best (t : Tables) {qs : List Qual} (some : qs ≠ []) :
    ∃ pre q post, qs = pre ++ q :: post ∧ (∀ y ∈ pre, t.ahead q y ∨ t.level q y) ∧ (∀ y ∈ post, t.ahead q y) ∧
      bestQual t qs = .some q := by
  obtain _ | ⟨q, qs⟩ := qs
  · exact absurd rfl some
  · obtain ⟨pre, post, split, notAfter, after⟩ := Tables.isBest_foldl t q qs
    exact ⟨pre, _, post, split, fun y mem => betterQual_iff.mp (notAfter y mem),
      fun y mem => betterQual_eq_false_iff.mp (after y mem), rfl⟩

theorem length_sightings (q : Qual) : q.sightings.length = (q.history.filter Option.isSome).length := by
  unfold Qual.sightings
  induction q.history with
  | nil => rfl
  | cons h hs ih =>
    cases h with
    | none => exact ih
    | some x => exact congrArg Nat.succ ih

/-! ### The blink period -/

/-- A waiting period and on-count come in use when they are adopted. -/
theorem Feedback.adopt_eq (f : Feedback) :
    f.adopt.blink = f.blink ∧ f.adopt.waiting = none ∧
      (f.adopt.period, f.adopt.onCount) = f.waiting.getD (f.period, f.onCount) ∧ f.adopt.entry = f.entry := by
  unfold Feedback.adopt
  cases waiting : f.waiting with
  | none => exact ⟨rfl, waiting, rfl, rfl⟩
  | some w => exact ⟨rfl, rfl, rfl, rfl⟩

theorem State.blinkPeriodEnd_restarts {s : State} (running : s.regs.device = .running) (quiet : s.busQuiet)
    (owed : s.work.period = true) (full : s.feedback.blink = some s.feedback.period) :
    ∃ t, exec .blinkPeriodEnd s = .next t ∧ t.feedback.blink = some 0 ∧ t.feedback.waiting = none ∧
      (t.feedback.period, t.feedback.onCount) = s.feedback.waiting.getD (s.feedback.period, s.feedback.onCount) ∧
      t.feedback.entry = s.feedback.entry ∧ t.work.period = false ∧ t.chans = s.chans ∧ t.menus = s.menus ∧
      t.beam = s.beam ∧ t.log = s.log ∧ sameExcept s t [s.statusRange] := by
  let f : Feedback := { s.feedback with blink := some 0 }
  let u : State := { s with work := { s.work with period := false }, feedback := f.adopt }
  have period : s.doPeriod = u := if_pos full
  have steps : s.stepPeriod = u.finishFrame := by rw [State.stepPeriod, if_pos ⟨running, owed⟩, period]
  have done := State.finishFrame_finished (s := u) quiet (by rw [show u.regs = s.regs from rfl, running]; nofun)
  obtain ⟨blink, waiting, adopted, entry⟩ := f.adopt_eq
  refine ⟨_, congrArg Host.Outcome.next steps, ?_, ?_, ?_, ?_, ?_, done.chans, done.menus, done.beam, done.unheard.log,
    done.unheard.memory⟩
  · rw [done.feedback]; exact blink
  · rw [done.feedback]; exact waiting
  · rw [done.feedback]; exact adopted
  · rw [done.feedback]; exact entry
  · obtain kept | cleared := done.work
    · rw [kept]
    · rw [cleared]; rfl

/-! ### What the Feedback Unit presents -/

theorem Feedback.phaseOn_iff (f : Feedback) : f.phaseOn = true ↔ ∃ k, f.blink = some k ∧ k < f.onCount := by
  unfold Feedback.phaseOn
  cases f.blink <;> simp

theorem Tables.sheet_of_getElem? {t : Tables} {i : Nat} {sh : Sheet} (h : t.sheets[i]? = some sh) : t.sheet i = sh := by
  simp [Tables.sheet, h]

theorem State.highlight_armed {s : State} {c : Chan} {sheet i : Nat} {sh : Sheet} {b : Button}
    (armed : (s.menu c).armed = some (sheet, i)) (on : s.tables.sheets[sheet]? = some sh) (button : sh.buttons[i]? = some b) :
    s.highlight c = ⟨menuGroup c, b.tag, if s.feedback.phaseOn then .blinkOn else .off⟩ := by
  have tag : s.armedTag c = some b.tag := by
    rw [State.armedTag, armed, Option.map_some, Tables.sheet_of_getElem? on, button]
    rfl
  rw [State.highlight, tag]

/-- The last three cases of R154. -/
theorem State.highlight_unarmed {s : State} {c : Chan} (unarmed : (s.menu c).armed = none) :
    (∀ g tag, (s.chan c).mode = .tracking → (s.chan c).tracked = some (g, tag) → s.highlight c = ⟨g, tag, .steady⟩) ∧
    (∀ g tag, (s.chan c).mode = .watch ∨ (s.chan c).mode = .pressed → s.feedback.entry.get c = some (g, tag) →
      s.highlight c = ⟨g, tag, .steady⟩) ∧
    ((s.chan c).mode = .watch ∨ (s.chan c).mode = .pressed → s.feedback.entry.get c = none → s.highlight c = ⟨0, 0, .off⟩) ∧
    ((s.chan c).mode ≠ .tracking → ¬((s.chan c).mode = .watch ∨ (s.chan c).mode = .pressed) → s.highlight c = ⟨0, 0, .off⟩) := by
  have tag : s.armedTag c = none := by rw [State.armedTag, unarmed]; rfl
  unfold State.highlight
  rw [tag]
  refine ⟨fun g t mode tracked => ?_, fun g t mode entry => ?_, fun mode entry => ?_, fun tracking watching => ?_⟩
  · rw [mode, tracked]
  · rw [entry]
    rcases mode with mode | mode
    · rw [mode]
    · rw [mode]
  · rw [entry]
    rcases mode with mode | mode
    · rw [mode]
    · rw [mode]
  · cases mode : (s.chan c).mode with
    | tracking => exact absurd mode tracking
    | watch => exact absurd (.inl mode) watching
    | pressed => exact absurd (.inr mode) watching
    | off => rfl
    | calibrating => rfl
    | suspended => rfl
    | glare => rfl

theorem State.eligible_eq (s : State) (claims : List Claim) (c : Chan) :
    s.eligible claims c = (s.chan c).table.filter fun q =>
      decide ((s.chanConfig c).k ≤ (q.history.filter Option.isSome).length) && s.permits claims c q.group q.tag := by
  unfold State.eligible Qual.confirmed
  simp only [length_sightings]

theorem State.entry_choose (s : State) (claims : List Claim) (c : Chan) :
    (s.choose claims c).feedback.entry.get c = s.highlightEntry claims c := by
  rw [State.choose, Pair.get_set, if_pos rfl]

/-- Settles O36: the blink period, the cases of the highlight, and the choice of its entry. -/
theorem blinkPeriodRestarts : Obligations.BlinkPeriodRestarts := by
  unfold Obligations.BlinkPeriodRestarts
  refine ⟨fun s running quiet owed full => State.blinkPeriodEnd_restarts running quiet owed full, fun s c => ?_, fun s claims c => ?_⟩
  · refine ⟨fun sheet i sh b armed on button => ?_, State.highlight_unarmed, ?_, fun lower top stack => ?_⟩
    · have shown := State.highlight_armed armed on button
      have phase := s.feedback.phaseOn_iff
      refine ⟨fun lit => ?_, fun dark => ?_⟩
      · rw [shown, if_pos (phase.mpr lit)]
        cases c <;> rfl
      · rw [shown, if_neg fun h => dark (phase.mp h)]
        cases c <;> rfl
    · rw [State.cross, beq_eq_decide]
    · rw [State.shownSheet, Menu.top, stack]
      simp
  · intro t entry eligible first tied watches
    have chosen : entry = s.highlightEntry claims c := s.entry_choose claims c
    have table : s.eligible claims c = eligible := s.eligible_eq claims c
    refine ⟨fun none => ?_, fun watching some => ?_, ?_, rfl⟩
    · rw [chosen, State.highlightEntry]
      split
      next watching =>
        rw [table, none.resolve_left fun h => h watching]
        rfl
      · rfl
    · obtain ⟨pre, q, post, split, notAfter, after, best⟩ := bestQual_best s.tables some
      refine ⟨pre, q, post, split, notAfter, after, ?_⟩
      rw [chosen, State.highlightEntry, if_pos watching, table, best]
      rfl
    · cases c <;> rfl

end Sys2Proof.Machine

/-! The Menu Engine: the expiry of a confirm countdown, and the taking of a button pick. -/

namespace Sys2Proof.Machine

/-! ### Work on the menus alone -/

/-- `t` is `s` but for the menus and the Feedback Unit. -/
def OnMenus (s t : State) : Prop := ∃ ms f, t = { s with menus := ms, feedback := f }

theorem State.syncBlink_onMenus (s : State) : OnMenus s s.syncBlink := by
  unfold State.syncBlink
  split
  · exact ⟨_, _, rfl⟩
  · exact ⟨_, _, rfl⟩
  · exact ⟨_, _, rfl⟩
  · exact ⟨_, _, rfl⟩

theorem State.syncBlink_onMenu_onMenus (s : State) (c : Chan) (f : Menu → Menu) : OnMenus s (s.onMenu c f).syncBlink := by
  obtain ⟨ms, g, is⟩ := (s.onMenu c f).syncBlink_onMenus
  exact ⟨ms, g, is⟩

theorem OnMenus.onMenu {s t : State} (h : OnMenus s t) (c : Chan) (f : Menu → Menu) : OnMenus s (t.onMenu c f) := by
  obtain ⟨ms, g, rfl⟩ := h
  exact ⟨_, _, rfl⟩

/-- A record after such work is a record made from the start. -/
theorem OnMenus.record_noted {s w : State} (h : OnMenus s w) (quiet : s.busQuiet) (live : s.regs.device ≠ .halted)
    (ready : s.logReady) (wf : Memory.wf s.mem) (c : Chan) (n : Notes) (b : Body) :
    ∃ m, w.record c n b = w.noted m ∧ recorded s (w.noted m) ⟨.chan c, s.beam.frame, n, b⟩ ∧
      sameExcept s (w.noted m) [s.slotRange] := by
  obtain ⟨ms, f, rfl⟩ := h
  obtain ⟨m, placed, -, made, same⟩ := State.record_noted (s := { s with menus := ms, feedback := f }) quiet live ready wf c n b
  exact ⟨m, placed, made, same⟩

/-! ### The expiry of a confirm countdown -/

theorem State.confirmExpiry_disarms {s : State} {c : Chan} {sheet i : Nat} (running : s.regs.device = .running)
    (quiet : s.busQuiet) (ready : s.logReady) (wf : Memory.wf s.mem) (paid : s.work.owed.get c = none)
    (expired : s.work.expiry.get c = true) (armed : (s.menu c).armed = some (sheet, i)) :
    ∃ t, exec (.confirmExpiry c) s = .next t ∧
      recorded s t ⟨.chan c, s.beam.frame, {}, s.menuBody c .disarmed sheet i none (some .expired)⟩ ∧
      t.menu c = { s.menu c with armed := none, countdown := 0 } ∧ t.menu (otherChan c) = s.menu (otherChan c) ∧
      ((s.menu (otherChan c)).armed = none → t.feedback.blink = none) ∧
      ((s.menu (otherChan c)).armed ≠ none → s.feedback.blink ≠ none → t.feedback.blink = s.feedback.blink) ∧
      t.work.expiry.get c = false ∧ t.chans = s.chans ∧ t.beam = s.beam ∧ sameExcept s t [s.slotRange, s.statusRange] := by
  let v : State := { s with work := { s.work with expiry := s.work.expiry.set c false } }
  have live : v.regs.device ≠ .halted := by rw [show v.regs = s.regs from rfl, running]; nofun
  obtain ⟨m, disarmed, -, made, same⟩ := State.disarm_noted (s := v) quiet live ready wf armed .expired
  have unarmed : (v.noted m).clearArmed c = (((v.noted m).onMenu c fun x => { x with armed := none, countdown := 0 }).syncBlink) := by
    rw [State.clearArmed, show ((v.noted m).menu c).armed = _ from armed]
  have menu := State.menu_clearArmed (v.noted m) c
  rw [if_neg (by rw [show ((v.noted m).menu c).armed = _ from armed]; nofun)] at menu
  have other := (v.noted m).menu_clearArmed_ne (otherChan_ne c)
  have blink := State.blink_clearArmed (s := v.noted m) (c := c) (by rw [show ((v.noted m).menu c).armed = _ from armed]; nofun)
  obtain ⟨ms, f, is⟩ := (v.noted m).clearArmed_eq c
  rw [is] at menu other blink disarmed
  let w : State := { v.noted m with menus := ms, feedback := f }
  have steps : s.stepExpiry c = (w.choose w.closeClaims c).finishFrame := by
    have noStep : s.doOwed c = s := by rw [State.doOwed, paid]
    have expires : s.doExpiry c = w.choose w.closeClaims c := by
      rw [State.doExpiry, disarmed]
      exact State.andThen_live _ live
    rw [State.stepExpiry, if_pos ⟨running, expired⟩, noStep, State.andThen_live (s := s) _ live, expires]
    exact State.andThen_live _ live
  have done := State.finishFrame_finished (s := w.choose w.closeClaims c) quiet live
  have heard : recorded s w ⟨.chan c, s.beam.frame, {}, s.menuBody c .disarmed sheet i none (some .expired)⟩ := made
  have after : Unheard w (w.choose w.closeClaims c).finishFrame [w.statusRange] :=
    ⟨done.unheard.log, done.unheard.cause, done.unheard.lost, done.unheard.base, done.unheard.memory⟩
  refine ⟨_, congrArg Host.Outcome.next steps, heard.unheard after, (done.menu c).trans menu, (done.menu _).trans other, ?_, ?_, ?_,
    done.chans, done.beam, sameExcept.trans (t := w) same after.memory⟩
  · intro none
    rw [done.feedback]
    exact blink.1 none
  · intro some runs
    obtain ⟨k, is⟩ := Option.ne_none_iff_exists'.mp runs
    rw [done.feedback]
    refine (blink.2 some).trans ?_
    rw [show (v.noted m).feedback = s.feedback from rfl, is, Option.getD_some]
  · obtain kept | cleared := done.work
    · rw [kept]
      cases c <;> rfl
    · rw [cleared]
      cases c <;> rfl

/-! ### The live button of a sheet -/

theorem Sheet.live_none {sh : Sheet} {tag : Nat} (inert : ∀ b ∈ sh.buttons, b.tag = tag → b.inert = true) : sh.live tag = none := by
  rw [Sheet.live, List.findIdx?_eq_none_iff]
  intro b mem
  by_cases is : b.tag = tag
  · simp [is, inert b mem is]
  · simp [is]

theorem Sheet.live_first {sh : Sheet} {tag : Nat} {before after : List Button} {b : Button}
    (split : sh.buttons = before ++ b :: after) (is : b.tag = tag) (works : b.inert = false)
    (inert : ∀ x ∈ before, x.tag = tag → x.inert = true) : sh.live tag = some before.length := by
  have none : before.findIdx? (fun b => b.tag == tag && !b.inert) = none := Sheet.live_none (sh := ⟨false, none, before⟩) inert
  rw [Sheet.live, split, List.findIdx?_append, none]
  simp [List.findIdx?_cons, is, works]

/-! ### A button performed -/

/-- A button that performs its kind: the menu first, then its record with the menu after it. -/
theorem State.perform_recorded {s w : State} (h : OnMenus s w) (quiet : s.busQuiet) (live : s.regs.device ≠ .halted)
    (ready : s.logReady) (wf : Memory.wf s.mem) (c : Chan) (sheet i : Nat) (b : Button) (trig : Trigger) (echo : Bool) :
    recorded s (w.perform c sheet i b trig echo) ⟨.chan c, s.beam.frame, { echo := echo },
        (w.perform c sheet i b trig echo).menuBody c (performKind (w.menu c) sheet i b).1 sheet i (some trig) none⟩ ∧
      (w.perform c sheet i b trig echo).menu c = (performKind (w.menu c) sheet i b).2 := by
  let t := w.onMenu c fun _ => (performKind (w.menu c) sheet i b).2
  obtain ⟨m, placed, made, -⟩ := (h.onMenu c fun _ => (performKind (w.menu c) sheet i b).2).record_noted quiet live ready wf c
    { echo := echo } (t.menuBody c (performKind (w.menu c) sheet i b).1 sheet i (some trig) none)
  have performed : w.perform c sheet i b trig echo = t.noted m := placed
  rw [performed]
  exact ⟨made, w.menu_onMenu c fun _ => (performKind (w.menu c) sheet i b).2⟩

theorem flipToggle_length (toggles : List (List Bool)) (sheet i : Nat) : (flipToggle toggles sheet i).length = toggles.length :=
  List.length_modify _ _ _

/-- Flipping a toggle state changes that one alone, and only where it exists. -/
theorem flipToggle_getD (toggles : List (List Bool)) (sheet i n j : Nat) :
    ((flipToggle toggles sheet i).getD n []).getD j false =
      if n = sheet ∧ j = i ∧ j < (toggles.getD n []).length then !((toggles.getD n []).getD j false)
      else (toggles.getD n []).getD j false := by
  unfold flipToggle
  by_cases same : n = sheet
  · subst same
    cases row : toggles[n]? with
    | none => simp [List.getD_eq_getElem?_getD, row]
    | some r =>
      by_cases here : j = i
      · subst here
        by_cases inside : j < r.length
        · simp [List.getD_eq_getElem?_getD, row, inside]
        · simp [List.getD_eq_getElem?_getD, row, inside]
      · simp [List.getD_eq_getElem?_getD, row, here, Ne.symm here]
  · simp [List.getD_eq_getElem?_getD, same, Ne.symm same]

/-! ### A button pick -/

/-- The button pick of a live button. -/
theorem State.buttonPick_live {s : State} {c : Chan} {tag i : Nat} {b : Button} (live : (s.topSheet c).live tag = some i)
    (at_ : (s.topSheet c).buttons.getD i ⟨0, none, 0, 0, false, false, true⟩ = b) (trig : Trigger) (echo : Bool) :
    s.buttonPick c tag trig echo =
      (if (s.menu c).armed = some ((s.menu c).top, i) then s else s.disarm c .pick).andThen fun t =>
        t.takeButton c (s.menu c).top i b trig echo := by
  unfold State.buttonPick
  dsimp only
  rw [live, ← at_]

/-- With no other button armed the Menu Engine takes the pick at once. -/
theorem State.buttonPick_alone {s : State} {c : Chan} {tag i : Nat} {b : Button} (live : (s.topSheet c).live tag = some i)
    (at_ : (s.topSheet c).buttons.getD i ⟨0, none, 0, 0, false, false, true⟩ = b) (trig : Trigger) (echo : Bool)
    (works : s.regs.device ≠ .halted) (alone : (s.menu c).armed = none ∨ (s.menu c).armed = some ((s.menu c).top, i)) :
    s.buttonPick c tag trig echo = s.takeButton c (s.menu c).top i b trig echo := by
  rw [State.buttonPick_live live at_]
  have first : (if (s.menu c).armed = some ((s.menu c).top, i) then s else s.disarm c .pick) = s := by
    rcases alone with unarmed | same
    · rw [State.disarm_unarmed unarmed, ite_self]
    · exact if_pos same
  rw [first]
  exact State.andThen_live _ works

/-- Cases 2 and 4 of R110: the armed button itself, and a button that is not CONFIRM with none armed, perform their kind. -/
theorem State.takeButton_performs {s : State} {c : Chan} {sheet i : Nat} {b : Button}
    (performs : (s.menu c).armed = some (sheet, i) ∨ ((s.menu c).armed = none ∧ b.confirm = false)) (trig : Trigger) (echo : Bool) :
    s.takeButton c sheet i b trig echo = (s.clearArmed c).perform c sheet i b trig echo := by
  unfold State.takeButton
  rcases performs with same | ⟨unarmed, plain⟩
  · exact if_pos same
  · rw [if_neg (by rw [unarmed]; nofun), if_neg (by rw [plain]; decide), State.clearArmed_unarmed unarmed]

/-- Case 3 of R110: a CONFIRM button with none armed. -/
theorem State.takeButton_arms {s : State} {c : Chan} {sheet i : Nat} {b : Button} (unarmed : (s.menu c).armed = none)
    (confirm : b.confirm = true) (trig : Trigger) (echo : Bool) : s.takeButton c sheet i b trig echo = s.arm c sheet i trig echo := by
  rw [State.takeButton, if_neg (by rw [unarmed]; nofun), if_pos confirm]

/-- The arming of a button: the menu and the blink generator first, then the record. -/
theorem State.arm_recorded {s : State} (quiet : s.busQuiet) (live : s.regs.device ≠ .halted) (ready : s.logReady)
    (wf : Memory.wf s.mem) (c : Chan) (sheet i : Nat) (trig : Trigger) (echo : Bool) :
    recorded s (s.arm c sheet i trig echo) ⟨.chan c, s.beam.frame, { echo := echo },
        (s.arm c sheet i trig echo).menuBody c .armed sheet i (some trig) none⟩ ∧
      (s.arm c sheet i trig echo).menu c = { s.menu c with armed := some (sheet, i), countdown := s.config.confirmTimeout } ∧
      (s.arm c sheet i trig echo).feedback.blink = some (s.feedback.blink.getD 0) := by
  let f : Menu → Menu := fun m => { m with armed := some (sheet, i), countdown := s.config.confirmTimeout }
  let t := (s.onMenu c f).syncBlink
  obtain ⟨m, placed, made, -⟩ := (s.syncBlink_onMenu_onMenus c f).record_noted quiet live ready wf c { echo := echo }
    (t.menuBody c .armed sheet i (some trig) none)
  have armed : s.arm c sheet i trig echo = t.noted m := placed
  have menu : t.menu c = f (s.menu c) := (congrArg (Pair.get · c) (State.syncBlink_menus _)).trans (s.menu_onMenu c f)
  have any : (s.onMenu c f).anyArmed = true := by rw [State.anyArmed_eq _ c, State.menu_onMenu]; rfl
  rw [armed]
  exact ⟨made, menu, State.blink_syncBlink_armed any⟩

/-- A pick that finds another button armed: that one is disarmed with its record, and then the pick is taken. -/
theorem State.buttonPick_disarms {s : State} {c : Chan} {tag i sheet j : Nat} (quiet : s.busQuiet)
    (works : s.regs.device ≠ .halted) (ready : s.logReady) (wf : Memory.wf s.mem) (live : (s.topSheet c).live tag = some i)
    (armed : (s.menu c).armed = some (sheet, j)) (other : (sheet, j) ≠ ((s.menu c).top, i)) (trig : Trigger) (echo : Bool) :
    recorded s (s.disarm c .pick) ⟨.chan c, s.beam.frame, {}, s.menuBody c .disarmed sheet j none (some .pick)⟩ ∧
      (s.disarm c .pick).menu c = { s.menu c with armed := none, countdown := 0 } ∧
      s.buttonPick c tag trig echo = (s.disarm c .pick).buttonPick c tag trig echo := by
  obtain ⟨m, disarmed, -, made, -⟩ := State.disarm_noted quiet works ready wf armed .pick
  have before : ((s.noted m).menu c).armed = some (sheet, j) := armed
  have menu := State.menu_clearArmed (s.noted m) c
  rw [if_neg (by rw [before]; nofun)] at menu
  obtain ⟨ms, f, is⟩ := (s.noted m).clearArmed_eq c
  rw [is] at disarmed menu
  let u : State := { s.noted m with menus := ms, feedback := f }
  have after : u.menu c = { s.menu c with armed := none, countdown := 0 } := menu
  have sheetSame : u.topSheet c = s.topSheet c := by rw [State.topSheet, after]; rfl
  have topSame : (u.menu c).top = (s.menu c).top := by rw [after]; rfl
  have later := State.buttonPick_alone (s := u) (c := c) (tag := tag) (i := i) (by rw [sheetSame]; exact live) rfl trig echo works
    (.inl (by rw [after]))
  refine ⟨by rw [disarmed]; exact made, by rw [disarmed]; exact after, ?_⟩
  rw [State.buttonPick_live live rfl, if_neg (by rw [armed]; exact fun h => other (Option.some.inj h)), disarmed]
  refine (State.andThen_live (s := u) _ works).trans (.trans ?_ later.symm)
  rw [topSame, sheetSame]

theorem List.getD_append_cons {α : Type} (before after : List α) (x d : α) : (before ++ x :: after).getD before.length d = x := by simp

/-- Settles O35: the expiry, and the pick of a button by the live button of the top sheet. -/
theorem confirmExpiryDisarms : Obligations.ConfirmExpiryDisarms := by
  unfold Obligations.ConfirmExpiryDisarms
  refine ⟨fun s c sheet i running quiet ready wf => State.confirmExpiry_disarms running quiet ready wf,
    fun s c tag trig echo => ⟨fun inert => ?_, ?_⟩⟩
  · unfold State.buttonPick
    dsimp only
    rw [Sheet.live_none inert]
  intro before after b split is works inert running quiet ready wf
  have live : s.regs.device ≠ .halted := by rw [running]; nofun
  have found := Sheet.live_first split is works inert
  have at_ : (s.topSheet c).buttons.getD before.length ⟨0, none, 0, 0, false, false, true⟩ = b := by
    rw [split]; exact List.getD_append_cons _ _ _ _
  refine ⟨fun sheet j armed other => State.buttonPick_disarms quiet live ready wf found armed other trig echo,
    fun unarmed confirm => ?_, fun performs => ?_⟩
  · rw [State.buttonPick_alone found at_ trig echo live (.inl unarmed), State.takeButton_arms unarmed confirm]
    exact State.arm_recorded quiet live ready wf c _ _ trig echo
  · have alone : (s.menu c).armed = none ∨ (s.menu c).armed = some ((s.menu c).top, before.length) :=
      performs.elim .inr fun h => .inl h.1
    rw [State.buttonPick_alone found at_ trig echo live alone, State.takeButton_performs performs]
    obtain ⟨record, menu⟩ := State.perform_recorded (s.clearArmed_eq c) quiet live ready wf c (s.menu c).top before.length b trig echo
    rw [State.menu_clearArmed] at record menu
    generalize n_eq : (if (s.menu c).armed = none then s.menu c else { s.menu c with armed := none, countdown := 0 }) = n at record menu ⊢
    have stack : n.stack = (s.menu c).stack := by rw [← n_eq]; split <;> rfl
    have toggles : n.toggles = (s.menu c).toggles := by rw [← n_eq]; split <;> rfl
    have choices : n.choices = (s.menu c).choices := by rw [← n_eq]; split <;> rfl
    unfold performKind at record menu
    cases kind : b.kind with
    | none =>
      rw [kind] at record menu
      exact ⟨record, menu⟩
    | some k =>
      rw [kind] at record menu
      cases k with
      | command => exact ⟨record, menu⟩
      | openSheet =>
        simp only [stack] at record menu
        refine ⟨fun room => ?_, fun full => ?_⟩
        · rw [if_pos (by exact room)] at record menu
          exact ⟨record, menu⟩
        · rw [if_neg (by exact Nat.not_lt.mpr full)] at record menu
          exact ⟨record, menu⟩
      | back =>
        simp only [stack] at record menu
        refine ⟨fun up => ?_, fun home => ?_⟩
        · rw [if_pos up] at record menu
          exact ⟨record, menu⟩
        · rw [if_neg (Nat.not_le.mpr home)] at record menu
          exact ⟨record, menu⟩
      | toggle =>
        simp only [toggles] at record menu
        exact ⟨record, _, menu, flipToggle_length _ _ _, fun sheet j => flipToggle_getD _ _ _ _ _⟩
      | choice =>
        simp only [choices] at record menu
        exact ⟨record, menu⟩

end Sys2Proof.Machine

/-! A press window: the table update where nothing is evicted, the pick of an entry, and the work of a frame end in PRESSED. -/

namespace Sys2Proof.Machine

/-! ### The table update -/

theorem addSeen_room (k : Nat) {table : List Qual} (room : table.length < 4) (x : Seen) :
    addSeen k table x = table ++ [⟨x.group, x.tag, [some x.sighting], false⟩] := by
  have kept : makeRoom k table = table := by
    unfold makeRoom
    exact if_pos room
  rw [addSeen, kept]

/-- New entries that fit are appended in order. -/
theorem foldl_addSeen_room (k : Nat) (fresh : List Seen) {kept : List Qual} (room : kept.length + fresh.length ≤ 4) :
    fresh.foldl (addSeen k) kept = kept ++ fresh.map fun x => ⟨x.group, x.tag, [some x.sighting], false⟩ := by
  induction fresh generalizing kept with
  | nil => simp
  | cons x fresh ih =>
    rw [List.length_cons] at room
    rw [List.foldl_cons, addSeen_room k (by omega), ih (by rw [List.length_append, List.length_singleton]; omega)]
    simp

theorem Qual.append_eq (m : Nat) (set : List Seen) (q : Qual) :
    q.append m set =
      (let h := q.history ++ [(set.find? fun x => x.group = q.group ∧ x.tag = q.tag).map Seen.sighting]
       { q with history := h.drop (h.length - m) }) := by
  have pair : (fun x : Seen => x.group == q.group && x.tag == q.tag) = fun x => decide (x.group = q.group ∧ x.tag = q.tag) := by
    funext x
    rw [Bool.decide_and]
    rfl
  rw [Qual.append, findSeen, pair]

theorem Qual.sightings_isEmpty (q : Qual) : (!q.sightings.isEmpty) = q.history.any Option.isSome := by
  unfold Qual.sightings
  induction q.history with
  | nil => rfl
  | cons h hs ih =>
    cases h with
    | none => exact ih
    | some x => rfl

theorem updateTable_room (m k : Nat) (set : List Seen) (table : List Qual) :
    let grown := table.map fun q =>
      let h := q.history ++ [(set.find? fun x => x.group = q.group ∧ x.tag = q.tag).map Seen.sighting]
      { q with history := h.drop (h.length - m) }
    let kept := grown.filter fun q => q.history.any Option.isSome
    let fresh := set.filter fun x => ∀ q ∈ kept, ¬(q.group = x.group ∧ q.tag = x.tag)
    kept.length + fresh.length ≤ 4 →
      updateTable m k set table = kept ++ fresh.map fun x => ⟨x.group, x.tag, [some x.sighting], false⟩ := by
  intro grown kept fresh room
  have keeps : ((table.map (Qual.append m set)).filter fun q => !q.sightings.isEmpty) = kept := by
    rw [List.map_congr_left fun q _ => Qual.append_eq m set q]
    exact List.filter_congr fun q _ => q.sightings_isEmpty
  have freshes : (set.filter fun x => !(kept.any fun q => q.group == x.group && q.tag == x.tag)) = fresh := by
    refine List.filter_congr fun x _ => ?_
    rw [Bool.eq_iff_iff]
    simp
  unfold updateTable
  dsimp only
  rw [keeps, freshes]
  exact foldl_addSeen_room k fresh room

/-! ### The pick of an entry -/

theorem Qual.toPick_latest {q : Qual} (trig : Trigger) {older : List Sighting} {last : Sighting} (is : q.sightings = older ++ [last]) :
    (q.toPick trig).index = last.index ∧ (q.toPick trig).p = last.p := by
  have latest : q.sightings.getLast? = some last := by rw [is]; exact List.getLast?_concat
  unfold Qual.toPick
  dsimp only
  rw [latest]
  exact ⟨rfl, rfl⟩

/-- The point of a pick is the mean of the entry's sightings. -/
theorem Qual.toPick_point {q : Qual} (trig : Trigger) (some : q.sightings ≠ []) :
    isRounded (q.toPick trig).point.x (q.sightings.map fun x => x.point.x).sum q.sightings.length ∧
      isRounded (q.toPick trig).point.y (q.sightings.map fun x => x.point.y).sum q.sightings.length := by
  have mean : ∀ f : Sighting → Nat,
      isRounded (meanRounded (q.sightings.map f)) (q.sightings.map fun x => (f x : Int)).sum q.sightings.length := fun f => by
    have rounded := isRounded_meanRounded (vs := q.sightings.map f) (by simpa using some)
    rwa [List.length_map, Nat.cast_list_sum, List.map_map] at rounded
  have point : (q.toPick trig).point =
      ⟨meanRounded (q.sightings.map fun x => x.point.x), meanRounded (q.sightings.map fun x => x.point.y)⟩ := rfl
  rw [point]
  exact ⟨mean fun x => x.point.x, mean fun x => x.point.y⟩

/-! ### The frame end in PRESSED -/

/-- With nothing to pick the window count falls, and at 0 a MISS is owed. -/
theorem State.windowFalls_eq (s : State) (c : Chan) :
    s.windowFalls c = (let u := s.onChan c fun x => { x with windowCount := (s.chan c).windowCount - 1 }
      if (s.chan c).windowCount - 1 = 0 then u.owe c (some .miss) else u) := by
  unfold State.windowFalls
  dsimp only
  rw [State.chan_onChan]
  rfl

/-- Settles O31: the MISS, the update, the pick, and the choice of the pick in PRESSED. -/
theorem missEndsPressWindow : Obligations.MissEndsPressWindow := by
  unfold Obligations.MissEndsPressWindow
  refine ⟨fun s c p running quiet ready wf _ press owes => State.miss_recorded running quiet ready wf press owes,
    updateTable_room, fun q trig older last is => ?_, fun s c p press => ?_⟩
  · obtain ⟨index, at_⟩ := Qual.toPick_latest trig is
    refine ⟨rfl, rfl, index, at_, rfl, rfl, ?_, Qual.toPick_point trig (by rw [is]; simp)⟩
    exact List.any_eq_true
  · intro t eligible first tied
    have chan : t.chan c = { (s.chan c).countWindow with table := (t.chan c).table } := by cases c <;> rfl
    have count : (t.chan c).windowCount = (s.chan c).windowCount := (congrArg Channel.windowCount chan).trans rfl
    have trigger : ((t.chan c).press.map fun p => p.role.trigger).getD .tip = p.role.trigger := by
      rw [show (t.chan c).press = some p from (congrArg Channel.press chan).trans press]
      rfl
    have frame : s.pressedFrame c = match bestQual t.tables eligible with
        | none => t.windowFalls c
        | some q =>
          let k := q.toPick (((t.chan c).press.map fun p => p.role.trigger).getD .tip)
          if k.group = 61 ∨ k.group = 62 then
            (t.pickButton c k).andThen fun u => u.onChan c fun x => x.leavePressed.goto .watch
          else t.pickElement c k := rfl
    refine ⟨fun empty => ?_, fun some => ?_⟩
    · rw [frame, empty, bestQual_nil]
      refine (t.windowFalls_eq c).trans ?_
      rw [count]
    · obtain ⟨pre, q, post, split, notAfter, after, best⟩ := bestQual_best t.tables some
      refine ⟨pre, q, post, split, notAfter, after, ?_⟩
      rw [frame, best]
      dsimp only
      rw [trigger]
      rfl

end Sys2Proof.Machine

/-! The PICK record with its place in a collection, and the decision of the asks. -/

namespace Sys2Proof.Machine

/-! ### Records before and after unheard work -/

theorem recordedBoth.of_unheard {s t u : State} {r r' : Record} (h : recordedBoth t u r r') (before : Unheard s t []) :
    recordedBoth s u r r' := by
  obtain ⟨cause, lost, bytes, free, busy⟩ := h
  have second : t.secondFree ↔ s.secondFree := by
    have area : t.area (slotOffset ((s.log.nextSlot + 1) % 64)) = s.area (slotOffset ((s.log.nextSlot + 1) % 64)) := by
      rw [State.area, before.base]; rfl
    rw [State.secondFree, before.log, area, before.memory _ nofun]
    rfl
  rw [before.log] at bytes free busy
  exact ⟨cause, lost.trans before.lost, bytes, fun yes => free (second.mpr yes), fun no => busy fun h => no (second.mp h)⟩

theorem recordedBoth.unheard {s t u : State} {r r' : Record} (h : recordedBoth s t r r') (after : Unheard t u [t.statusRange]) :
    recordedBoth s u r r' := by
  obtain ⟨cause, lost, bytes, free, busy⟩ := h
  exact ⟨after.cause.trans cause, after.lost.trans lost, (after.slot _).trans bytes,
    fun yes => ⟨after.log.trans (free yes).1, (after.slot _).trans (free yes).2⟩, fun no => after.log.trans (busy no)⟩

theorem pickRecorded.of_unheard {s t u : State} {c : Chan} {k : Pick} {n : Notes} {tracking : Bool}
    (h : pickRecorded t u c k n tracking) (before : Unheard s t []) (collection : (t.chan c).collection = (s.chan c).collection)
    (beam : t.beam = s.beam) (tables : t.tables = s.tables) : pickRecorded s u c k n tracking := by
  unfold pickRecorded at h ⊢
  rw [collection, beam, tables] at h
  obtain ⟨none, some⟩ := h
  refine ⟨fun is => ⟨(none is).1.of_unheard before, (none is).2⟩, fun x is => ?_⟩
  obtain ⟨again, further, complete⟩ := some x is
  exact ⟨fun pre post split new => ⟨(again pre post split new).1.of_unheard before, (again pre post split new).2⟩,
    fun new more => ⟨(further new more).1.of_unheard before, (further new more).2⟩,
    fun new last => ⟨(complete new last).1.of_unheard before, (complete new last).2⟩⟩

theorem pickRecorded.unheard {s t u : State} {c : Chan} {k : Pick} {n : Notes} {tracking : Bool}
    (h : pickRecorded s t c k n tracking) (after : Unheard t u [t.statusRange])
    (collection : (u.chan c).collection = (t.chan c).collection) : pickRecorded s u c k n tracking := by
  unfold pickRecorded at h ⊢
  rw [collection]
  obtain ⟨none, some⟩ := h
  refine ⟨fun is => ⟨(none is).1.unheard after, (none is).2⟩, fun x is => ?_⟩
  obtain ⟨again, further, complete⟩ := some x is
  exact ⟨fun pre post split new => ⟨(again pre post split new).1.unheard after, (again pre post split new).2⟩,
    fun new more => ⟨(further new more).1.unheard after, (further new more).2⟩,
    fun new last => ⟨(complete new last).1.unheard after, (complete new last).2⟩⟩

/-! ### The PICK record -/

theorem idxOf?_split {tags : List Nat} {tag : Nat} {pre post : List Nat} (split : tags = pre ++ tag :: post) (new : tag ∉ pre) :
    tags.idxOf? tag = some pre.length := by
  rw [split, List.idxOf?, List.findIdx?_append]
  have none : pre.findIdx? (· == tag) = none := List.findIdx?_eq_none_iff.mpr fun x mem => by
    simpa using fun is : x = tag => new (is ▸ mem)
  rw [none]
  simp [List.findIdx?_cons]

/-- `t` is `s` with a channel's collection replaced, but for what the Log Writer reaches. -/
def Collected (c : Chan) (s t : State) : Prop :=
  ∃ col m l, t = (s.onChan c fun x => { x with collection := col }).logged m l true s.regs.lost

section
variable {c : Chan} {s t : State} (h : Collected c s t)
include h

theorem Collected.chan : t.chan c = { s.chan c with collection := (t.chan c).collection } := by
  obtain ⟨col, m, l, rfl⟩ := h
  cases c <;> rfl

theorem Collected.other : t.chan (otherChan c) = s.chan (otherChan c) := by
  obtain ⟨col, m, l, rfl⟩ := h
  cases c <;> rfl

theorem Collected.claims : t.claims = s.claims := by
  obtain ⟨col, m, l, rfl⟩ := h
  rfl

theorem Collected.beam : t.beam = s.beam := by
  obtain ⟨col, m, l, rfl⟩ := h
  rfl

theorem Collected.menus : t.menus = s.menus := by
  obtain ⟨col, m, l, rfl⟩ := h
  rfl

theorem Collected.base : t.regs.areaBase = s.regs.areaBase := by
  obtain ⟨col, m, l, rfl⟩ := h
  rfl

theorem Collected.live (live : s.regs.device ≠ .halted) : t.regs.device ≠ .halted := by
  obtain ⟨col, m, l, rfl⟩ := h
  exact live

theorem Collected.quiet (quiet : s.busQuiet) : t.busQuiet := by
  obtain ⟨col, m, l, rfl⟩ := h
  exact quiet

end

/-- The first part of a PICK record: the collection after it, and the record. -/
theorem State.recordPick_first {s : State} (quiet : s.busQuiet) (live : s.regs.device ≠ .halted) (ready : s.logReady)
    (wf : Memory.wf s.mem) {c : Chan} {k : Pick} {n : Notes} {position : Nat} {again : Bool} {col : Option Collection}
    (place : collectTag (s.chan c).collection k.tag = (position, again, col)) (tracking : Bool) :
    ∃ m, s.recordPick c k n tracking = (let t := (s.onChan c fun x => { x with collection := col }).noted m
        if col.map Collection.remaining = some 0 then t.endCollection c .complete else t) ∧ Memory.wf m ∧
      recorded s ((s.onChan c fun x => { x with collection := col }).noted m)
        ⟨.chan c, s.beam.frame, { n with echo := k.echo, again := again },
          .pick k (loftPoint s.tables k.group k.point) position tracking⟩ ∧
      sameExcept s ((s.onChan c fun x => { x with collection := col }).noted m) [s.slotRange] := by
  obtain ⟨m, placed, kept, made, same⟩ := State.record_noted (s := s.onChan c fun x => { x with collection := col }) quiet live
    ready wf c { n with echo := k.echo, again := again } (.pick k (loftPoint s.tables k.group k.point) position tracking)
  refine ⟨m, ?_, kept, made, same⟩
  unfold State.recordPick
  rw [place]
  exact (congrArg (State.andThen · _) placed).trans (State.andThen_live _ live)

/-- From `s` to `t` the PICK record of a pick has been made, and nothing but the channel's collection has changed. -/
structure PickMade (s t : State) (c : Chan) (k : Pick) (n : Notes) (tracking : Bool) : Prop where
  collected : Collected c s t
  record : pickRecorded s t c k n tracking
  memory : sameExcept s t (s.pickRanges c k.tag)

theorem State.pickRanges_one {s : State} {c : Chan} {tag : Nat} (no : s.completes c tag = false) :
    s.pickRanges c tag = [s.slotRange] := by
  rw [State.pickRanges, no]; rfl

section
variable {s : State} (quiet : s.busQuiet) (live : s.regs.device ≠ .halted) (ready : s.logReady) (wf : Memory.wf s.mem)
  {c : Chan} {k : Pick} (n : Notes) (tracking : Bool)
include quiet live ready wf

/-- Without a collection. -/
theorem State.recordPick_alone (col : (s.chan c).collection = none) : PickMade s (s.recordPick c k n tracking) c k n tracking := by
  obtain ⟨m, is, -, made, same⟩ := State.recordPick_first quiet live ready wf (c := c) (k := k) (n := n)
    (position := 0) (again := false) (col := none) (by rw [col]; rfl) tracking
  rw [is]
  refine ⟨⟨none, m, _, rfl⟩, ⟨fun _ => ⟨made, by cases c <;> rfl⟩, fun x is => ?_⟩, ?_⟩
  · rw [col] at is
    exact nomatch is
  · rw [State.pickRanges_one (by rw [State.completes, col])]
    exact same

/-- A tag that the collection holds. -/
theorem State.recordPick_again {x : Collection} (col : (s.chan c).collection = some x) (left : 1 ≤ x.remaining) {i : Nat}
    (found : x.tags.idxOf? k.tag = some i) : PickMade s (s.recordPick c k n tracking) c k n tracking := by
  have mem : k.tag ∈ x.tags := by
    by_contra absent
    rw [List.idxOf?_eq_none_iff.mpr absent] at found
    exact nomatch found
  obtain ⟨m, is, -, made, same⟩ := State.recordPick_first quiet live ready wf (c := c) (k := k) (n := n)
    (position := i + 1) (again := true) (col := some x) (by rw [col, collectTag, found]) tracking
  dsimp only at is
  rw [if_neg (by rw [Option.map_some]; exact fun h => by simp only [Option.some.injEq] at h; omega)] at is
  rw [is]
  refine ⟨⟨_, m, _, rfl⟩, ⟨fun no => ?_, fun y yes => ?_⟩, ?_⟩
  · rw [col] at no
    exact nomatch no
  · obtain rfl : x = y := Option.some.inj (col.symm.trans yes)
    refine ⟨fun pre post split new => ?_, fun absent => absurd mem absent, fun absent => absurd mem absent⟩
    obtain rfl : i = pre.length := Option.some.inj (found.symm.trans (idxOf?_split split new))
    exact ⟨made, by cases c <;> rfl⟩
  · rw [State.pickRanges_one (by rw [State.completes, col]; simp [mem])]
    exact same

/-- A tag that the collection does not hold: the next place, and with it the end of a collection that it completes. -/
theorem State.recordPick_new {x : Collection} (col : (s.chan c).collection = some x) (left : 1 ≤ x.remaining)
    (found : x.tags.idxOf? k.tag = none) : PickMade s (s.recordPick c k n tracking) c k n tracking := by
  have absent : k.tag ∉ x.tags := List.idxOf?_eq_none_iff.mp found
  obtain ⟨m, is, kept, made, same⟩ := State.recordPick_first quiet live ready wf (c := c) (k := k) (n := n)
    (position := x.tags.length + 1) (again := false) (col := some ⟨x.requested, x.remaining - 1, x.tags ++ [k.tag]⟩)
    (by rw [col, collectTag, found]) tracking
  dsimp only at is
  rw [Option.map_some] at is
  let t := (s.onChan c fun y => { y with collection := some ⟨x.requested, x.remaining - 1, x.tags ++ [k.tag]⟩ }).noted m
  by_cases last : x.remaining = 1
  · have active : (t.chan c).collection = some ⟨x.requested, x.remaining - 1, x.tags ++ [k.tag]⟩ := by cases c <;> rfl
    obtain ⟨m', l, again, both, range⟩ := State.place_noted_again (u := t) made same {} rfl quiet live kept
      ⟨.chan c, s.beam.frame, {}, .sequenceEnd .complete x.requested (x.tags ++ [k.tag])⟩
    have ended : t.endCollection c .complete =
        (s.onChan c fun y => { y with collection := none }).logged m' l true s.regs.lost := by
      rw [State.endCollection, active]
      refine ((congrArg (State.andThen · _) again).trans (State.andThen_live _ live)).trans ?_
      cases c <;> rfl
    rw [if_pos (by simp [last])] at is
    have ranges : s.pickRanges c k.tag = [s.slotRange, s.secondRange] := by
      rw [State.pickRanges, State.completes, col]; simp [last, absent]
    rw [is, ended]
    refine ⟨⟨none, m', l, rfl⟩, ⟨fun no => ?_, fun y yes => ?_⟩, ranges ▸ range⟩
    · rw [col] at no
      exact nomatch no
    · obtain rfl : x = y := Option.some.inj (col.symm.trans yes)
      refine ⟨fun pre post split _ => absurd (split ▸ by simp) absent, fun _ more => absurd last (by omega), fun _ _ =>
        ⟨both, by cases c <;> rfl⟩⟩
  · rw [if_neg (by simp only [Option.some.injEq]; omega)] at is
    have ranges := State.pickRanges_one (s := s) (c := c) (tag := k.tag) (by rw [State.completes, col]; simp [last])
    rw [is]
    refine ⟨⟨_, m, _, rfl⟩, ⟨fun no => ?_, fun y yes => ?_⟩, ranges ▸ same⟩
    · rw [col] at no
      exact nomatch no
    · obtain rfl : x = y := Option.some.inj (col.symm.trans yes)
      exact ⟨fun pre post split _ => absurd (split ▸ by simp) absent, fun _ _ => ⟨made, by cases c <;> rfl⟩,
        fun _ one => absurd one last⟩

/-- The PICK record of an element pick, with its place in the collection (R99, R102). -/
theorem State.recordPick_made (someLeft : s.collectionOpen c) : PickMade s (s.recordPick c k n tracking) c k n tracking := by
  cases col : (s.chan c).collection with
  | none => exact State.recordPick_alone quiet live ready wf n tracking col
  | some x =>
    cases found : x.tags.idxOf? k.tag with
    | some i => exact State.recordPick_again quiet live ready wf n tracking col (someLeft x col) found
    | none => exact State.recordPick_new quiet live ready wf n tracking col (someLeft x col) found

end

/-! ### A lone ask -/

theorem State.collectionOpen_of_eq {s t : State} {c : Chan} (same : (t.chan c).collection = (s.chan c).collection)
    (h : s.collectionOpen c) : t.collectionOpen c := fun x is => h x (same ▸ is)

/-- A PICK record made in the course of a step, with the rest of the step unheard. -/
theorem PickMade.amid {s t u v : State} {c : Chan} {k : Pick} {n : Notes} {tracking : Bool} (h : PickMade t u c k n tracking)
    (before : Unheard s t []) (collection : (t.chan c).collection = (s.chan c).collection) (beam : t.beam = s.beam)
    (tables : t.tables = s.tables) (after : Unheard u v [u.statusRange])
    (kept : (v.chan c).collection = (u.chan c).collection) :
    pickRecorded s v c k n tracking ∧ sameExcept s v (s.statusRange :: s.pickRanges c k.tag) := by
  refine ⟨(h.record.of_unheard before collection beam tables).unheard after kept, ?_⟩
  have slot : ∀ i, t.area (slotOffset i) = s.area (slotOffset i) := fun i => by rw [State.area, before.base]; rfl
  have ranges : t.pickRanges c k.tag = s.pickRanges c k.tag := by
    unfold State.pickRanges State.completes State.slotRange State.secondRange
    rw [collection, before.log, slot, slot]
  have status : u.statusRange = s.statusRange := by
    rw [State.statusRange, State.area, h.collected.base, before.base]
    rfl
  have all := (before.memory.trans h.memory).trans after.memory
  rw [ranges, status] at all
  exact all.mono (by simp)

theorem State.decideAsks_lone {s : State} {c : Chan} {k : Ask} (asks : s.claims.asks.get c = some k)
    (other : s.claims.asks.get (otherChan c) = none) :
    s.decideAsks = (s.grant c k (answerOne s.claims.entries k)).afterAnswer c k (answerOne s.claims.entries k) := by
  unfold State.decideAsks
  cases c with
  | a =>
    rw [show s.claims.asks.a = some k from asks, show s.claims.asks.b = none from other]
  | b =>
    rw [show s.claims.asks.b = some k from asks, show s.claims.asks.a = none from other]

/-- The step that decides a lone ask. -/
theorem State.stepAsks_lone {s u : State} {c : Chan} {k : Ask} {r : Answer} (running : s.regs.device = .running)
    (asks : s.claims.asks.get c = some k) (other : s.claims.asks.get (otherChan c) = none)
    (answer : answerOne s.claims.entries k = r) (told : (s.grant c k r).afterAnswer c k r = u.choose u.closeClaims c)
    (live : u.regs.device ≠ .halted) : s.stepAsks = (u.choose u.closeClaims c).finishFrame := by
  have any : s.claims.asks.a.isSome ∨ s.claims.asks.b.isSome := by
    cases c with
    | a => exact .inl (Option.isSome_iff_exists.mpr ⟨k, asks⟩)
    | b => exact .inr (Option.isSome_iff_exists.mpr ⟨k, asks⟩)
  rw [State.stepAsks, if_pos ⟨running, any⟩, State.decideAsks_lone asks other, answer, told]
  exact State.andThen_live _ live

theorem asks_set_lone {asks : Pair (Option Ask)} {c : Chan} (other : asks.get (otherChan c) = none) :
    asks.set c none = ⟨none, none⟩ := by
  obtain ⟨a, b⟩ := asks
  cases c with
  | a => obtain rfl : b = none := other; rfl
  | b => obtain rfl : a = none := other; rfl

/-- Settles O37: the claim and the tracking first, then the PICK record. -/
theorem loneAskIsGranted : Obligations.LoneAskIsGranted := by
  unfold Obligations.LoneAskIsGranted
  intro s c k running quiet ready wf asks other free room someLeft
  have live : s.regs.device ≠ .halted := by rw [running]; nofun
  have answer : answerOne s.claims.entries k = .granted := by
    rw [answerOne, holderOf_eq_none free, if_neg (by decide)]
    exact if_pos room
  let t := ((s.startTracking c k.pick).choose s.closeClaims c).setAsk c none
  have tracked : t.chan c = { (s.chan c).leavePressed with
      mode := .tracking, tracked := some (k.pick.group, k.pick.tag), centre := k.pick.point, loss := 0, duration := 0,
      echoInCentre := k.pick.echo, table := [] } := by cases c <;> rfl
  have apart : t.chan (otherChan c) = s.chan (otherChan c) := by cases c <;> rfl
  have collection : (t.chan c).collection = (s.chan c).collection := by rw [tracked]; rfl
  have made := State.recordPick_made (s := t) quiet live ready wf (k := k.pick) {} true
    (State.collectionOpen_of_eq collection someLeft)
  have told : (s.grant c k .granted).afterAnswer c k .granted =
      (t.recordPick c k.pick {} true).andThen fun w => w.choose w.closeClaims c := rfl
  generalize t.recordPick c k.pick {} true = u at made told
  have col := made.collected
  have works := col.live live
  have step := State.stepAsks_lone running asks other answer (told.trans (State.andThen_live _ works)) works
  have done := State.finishFrame_finished (s := u.choose u.closeClaims c) (col.quiet quiet) works
  have after : Unheard u (u.choose u.closeClaims c).finishFrame [u.statusRange] :=
    ⟨done.unheard.log, done.unheard.cause, done.unheard.lost, done.unheard.base, done.unheard.memory⟩
  have chan := (done.chan c).trans col.chan
  rw [tracked] at chan
  obtain ⟨record, memory⟩ := made.amid (s := s) {} collection rfl rfl after (congrArg Channel.collection (done.chan c))
  exact ⟨_, congrArg Host.Outcome.next step, done.entries.trans (congrArg ClaimTable.entries col.claims),
    done.asks.trans ((congrArg ClaimTable.asks col.claims).trans (asks_set_lone other)), by rw [chan],
    by rw [chan], by rw [chan], by rw [chan], by rw [chan], by rw [chan], by rw [chan], by rw [chan]; rfl, record,
    (done.chan _).trans (col.other.trans apart), done.beam.trans col.beam, done.menus.trans col.menus, memory⟩

end Sys2Proof.Machine

/-! An element pick as it is formed, and the asks that are refused or compete. -/

namespace Sys2Proof.Machine

/-! ### An element pick -/

/-- What an element pick does once no button is armed. -/
def State.askOrRecord (s : State) (c : Chan) (k : Pick) : State :=
  match (s.chan c).press with
  | some pr =>
    if s.tables.draggable k.group && s.tipHeld c then s.setAsk c (some ⟨k, pr⟩)
    else (s.recordPick c k {} false).andThen fun u => u.onChan c fun x => x.leavePressed.goto .watch
  | none => (s.recordPick c k {} false).andThen fun u => u.onChan c fun x => x.leavePressed.goto .watch

theorem State.pickElement_eq (s : State) (c : Chan) (k : Pick) :
    s.pickElement c k = (s.disarm c .pick).andThen fun t => t.askOrRecord c k := rfl

theorem Tables.draggable_iff (t : Tables) (g : Nat) :
    t.draggable g = true ↔ g ≤ 60 ∧ ∃ e, t.groups[g]? = some e ∧ e.draggable = true := by
  rw [Tables.draggable]
  split
  next high => exact ⟨nofun, fun h => absurd h.1 (by omega)⟩
  next low =>
    cases entry : t.groups[g]? with
    | none => exact ⟨nofun, fun ⟨_, e, is, _⟩ => nomatch is⟩
    | some e => exact ⟨fun h => ⟨by omega, e, rfl, h⟩, fun ⟨_, x, is, drags⟩ => Option.some.inj is ▸ drags⟩

/-- An element pick that does not ask: its PICK record, and the channel in WATCH. -/
theorem State.pickElement_records {s : State} {c : Chan} {k : Pick} {p : Press} (quiet : s.busQuiet)
    (live : s.regs.device ≠ .halted) (ready : s.logReady) (wf : Memory.wf s.mem) (press : (s.chan c).press = some p)
    (unarmed : (s.menu c).armed = none) (still : ¬((s.tables.draggable k.group && s.tipHeld c) = true))
    (someLeft : s.collectionOpen c) : let t := s.pickElement c k
    pickRecorded s t c k {} false ∧
      t.chan c = { s.chan c with
        mode := .watch, windowCount := 0, windowFrames := 0, press := none, stage := .noStrike, windowResults := 0,
        windowEcho := false, collection := (t.chan c).collection } ∧
      t.chan (otherChan c) = s.chan (otherChan c) ∧ t.claims = s.claims ∧ t.menus = s.menus ∧
      sameExcept s t (s.pickRanges c k.tag) := by
  have made := State.recordPick_made quiet live ready wf (k := k) {} false someLeft
  have picked : s.pickElement c k = (s.recordPick c k {} false).andThen fun u =>
      u.onChan c fun x => x.leavePressed.goto .watch := by
    rw [State.pickElement_eq, State.disarm_unarmed unarmed, State.andThen_live (s := s) _ live, State.askOrRecord, press]
    exact if_neg still
  generalize s.recordPick c k {} false = u at made picked
  have col := made.collected
  rw [State.andThen_live _ (col.live live)] at picked
  dsimp only
  rw [picked]
  have chan : (u.onChan c fun x => x.leavePressed.goto .watch).chan c = (u.chan c).leavePressed.goto .watch := State.chan_onChan _ _ _
  have kept := made.record.unheard (u := u.onChan c fun x => x.leavePressed.goto .watch) {} (by rw [chan]; rfl)
  refine ⟨kept, ?_, (State.chan_onChan_other u c _).trans col.other, col.claims, col.menus, made.memory⟩
  rw [chan, col.chan]
  rfl

/-- An element pick that finds a button armed: the button is disarmed with its record, and then the pick goes on. -/
theorem State.pickElement_disarms {s : State} {c : Chan} {sheet i : Nat} (k : Pick) (quiet : s.busQuiet)
    (live : s.regs.device ≠ .halted) (ready : s.logReady) (wf : Memory.wf s.mem) (armed : (s.menu c).armed = some (sheet, i)) :
    let u := s.disarm c .pick
    recorded s u ⟨.chan c, s.beam.frame, {}, s.menuBody c .disarmed sheet i none (some .pick)⟩ ∧
      u.menu c = { s.menu c with armed := none, countdown := 0 } ∧ u.chans = s.chans ∧ s.pickElement c k = u.pickElement c k := by
  obtain ⟨m, disarmed, -, made, -⟩ := State.disarm_noted quiet live ready wf armed .pick
  have menu := State.menu_clearArmed (s.noted m) c
  rw [if_neg (by rw [show ((s.noted m).menu c).armed = _ from armed]; nofun)] at menu
  obtain ⟨ms, f, is⟩ := (s.noted m).clearArmed_eq c
  rw [is] at disarmed menu
  have clear : (((({ s.noted m with menus := ms, feedback := f } : State)).menu c).armed) = none := by rw [menu]
  dsimp only
  rw [State.pickElement_eq, State.pickElement_eq (s.disarm c .pick), disarmed, State.disarm_unarmed clear]
  exact ⟨made, menu, rfl, rfl⟩

/-! ### A refused ask -/

theorem answerOne_held {claims : List Claim} {k : Ask} (held : ∃ e ∈ claims, e.tag = k.pick.tag) :
    answerOne claims k = .contested := if_pos ((holderOf_isSome_iff claims k.pick.tag).mpr held)

theorem answerOne_full {claims : List Claim} {k : Ask} (free : ¬∃ e ∈ claims, e.tag = k.pick.tag) (full : 8 ≤ claims.length) :
    answerOne claims k = .full := by
  rw [answerOne, if_neg fun h => free ((holderOf_isSome_iff claims k.pick.tag).mp h)]
  exact if_neg (by simp only [Config.claimsMax]; omega)

theorem State.grant_refused {s : State} {c : Chan} {k : Ask} {r : Answer} (no : r ≠ .granted) : s.grant c k r = s := by
  cases r with
  | granted => exact absurd rfl no
  | contested => rfl
  | full => rfl

/-- What a refused lone ask leaves, however it is told. -/
structure Refused (s t : State) (c : Chan) : Prop where
  entries : t.claims.entries = s.claims.entries
  asks : t.claims.asks = ⟨none, none⟩
  mode : (t.chan c).mode = .watch
  table : (t.chan c).table = (s.chan c).table
  press : (t.chan c).press = none
  other : t.chan (otherChan c) = s.chan (otherChan c)
  beam : t.beam = s.beam

section
variable {s : State} {c : Chan} {k : Ask} (running : s.regs.device = .running) (quiet : s.busQuiet) (ready : s.logReady)
  (wf : Memory.wf s.mem) (asks : s.claims.asks.get c = some k) (other : s.claims.asks.get (otherChan c) = none)
include running quiet ready wf asks other

/-- A refused ask that gives its PICK with a note. -/
theorem State.stepAsks_pickOnly (someLeft : s.collectionOpen c) {r : Answer} (answer : answerOne s.claims.entries k = r) (n : Notes)
    (told : (s.grant c k r).afterAnswer c k r = (((s.setAsk c none).recordPick c k.pick n false).andThen fun u =>
      u.onChan c fun x => x.leavePressed.goto .watch).andThen fun u => u.choose u.closeClaims c) :
    Refused s s.stepAsks c ∧ pickRecorded s s.stepAsks c k.pick n false ∧
      sameExcept s s.stepAsks (s.statusRange :: s.pickRanges c k.pick.tag) := by
  have live : s.regs.device ≠ .halted := by rw [running]; nofun
  have made := State.recordPick_made (s := s.setAsk c none) quiet live ready wf (k := k.pick) n false someLeft
  generalize (s.setAsk c none).recordPick c k.pick n false = u at made told
  have col := made.collected
  have works := col.live live
  rw [State.andThen_live _ works] at told
  have step := State.stepAsks_lone running asks other answer (told.trans (State.andThen_live _ works)) works
  have chan : (u.onChan c fun x => x.leavePressed.goto .watch).chan c = (u.chan c).leavePressed.goto .watch := State.chan_onChan _ _ _
  have apart : (u.onChan c fun x => x.leavePressed.goto .watch).chan (otherChan c) = u.chan (otherChan c) := State.chan_onChan_other _ _ _
  generalize is : (u.onChan c fun x => x.leavePressed.goto .watch) = v at step chan apart
  have quietV : (v.choose v.closeClaims c).busQuiet := by rw [← is]; exact col.quiet quiet
  have liveV : (v.choose v.closeClaims c).regs.device ≠ .halted := by rw [← is]; exact works
  have done := State.finishFrame_finished quietV liveV
  rw [← step] at done
  have after : Unheard u s.stepAsks [u.statusRange] := by
    have := done.unheard
    rw [← is] at this
    exact ⟨this.log, this.cause, this.lost, this.base, this.memory⟩
  have final : s.stepAsks.chan c = (u.chan c).leavePressed.goto .watch := (done.chan c).trans chan
  obtain ⟨record, memory⟩ := made.amid (s := s) {} rfl rfl rfl after (by rw [final]; rfl)
  refine ⟨⟨?_, ?_, by rw [final]; rfl, ?_, by rw [final]; rfl, ?_, ?_⟩, record, memory⟩
  · rw [done.entries, ← is]
    exact (congrArg ClaimTable.entries col.claims).trans rfl
  · rw [done.asks, ← is]
    exact (congrArg ClaimTable.asks col.claims).trans (asks_set_lone other)
  · rw [final, col.chan]
    rfl
  · exact (done.chan _).trans (apart.trans col.other)
  · rw [done.beam, ← is]
    exact col.beam

/-- A refused ask that gives a MISS, with REFUSE. -/
theorem State.stepAsks_refuse (press : (s.chan c).press = some k.press) (answer : answerOne s.claims.entries k = .contested)
    (refuse : (s.chanConfig c).contest = .refuse) :
    Refused s s.stepAsks c ∧ recorded s s.stepAsks ⟨.chan c, s.beam.frame, { echo := (s.chan c).windowEcho || k.pick.echo },
          .miss .contested (s.chan c).stage k.press.role (s.chan c).windowFrames (s.chan c).windowResults
            (some (k.pick.group, k.pick.tag))⟩ ∧ (s.stepAsks.chan c).collection = (s.chan c).collection ∧
      sameExcept s s.stepAsks (s.statusRange :: s.pickRanges c k.pick.tag) := by
  have live : s.regs.device ≠ .halted := by rw [running]; nofun
  obtain ⟨m, missed, -, made, same⟩ := State.missAndGo_noted (s := s.setAsk c none) quiet live ready wf press .contested
    (some (k.pick.group, k.pick.tag)) k.pick.echo .watch
  let u := ((s.setAsk c none).noted m).onChan c fun x => x.leavePressed.goto .watch
  have told : (s.grant c k .contested).afterAnswer c k .contested = u.choose u.closeClaims c := by
    rw [State.grant_refused (r := .contested) nofun, State.afterAnswer]
    rw [show ((s.setAsk c none).chanConfig c).contest = .refuse from refuse, missed]
    exact State.andThen_live (s := u) _ live
  have step := State.stepAsks_lone (u := u) running asks other answer told live
  have done := State.finishFrame_finished (s := u.choose u.closeClaims c) quiet live
  rw [← step] at done
  have after : Unheard ((s.setAsk c none).noted m) s.stepAsks [((s.setAsk c none).noted m).statusRange] :=
    ⟨done.unheard.log, done.unheard.cause, done.unheard.lost, done.unheard.base, done.unheard.memory⟩
  have chan : s.stepAsks.chan c = (s.chan c).leavePressed.goto .watch := (done.chan c).trans
    (State.chan_onChan ((s.setAsk c none).noted m) c fun x => x.leavePressed.goto .watch)
  have first : recorded s ((s.setAsk c none).noted m) _ := made
  refine ⟨⟨done.entries, done.asks.trans (asks_set_lone other), by rw [chan]; rfl, by rw [chan]; rfl, by rw [chan]; rfl,
    (done.chan _).trans (State.chan_onChan_other ((s.setAsk c none).noted m) c fun x => x.leavePressed.goto .watch), done.beam⟩, first.unheard after, by rw [chan]; rfl, ?_⟩
  have memory : sameExcept s ((s.setAsk c none).noted m) [s.slotRange] := same
  exact (memory.trans after.memory).mono (by simp [State.pickRanges, State.statusRange, State.area, State.noted, State.logged, State.setAsk])

end

/-- Settles O38: the element pick as it is formed, and the three refusals. -/
theorem loneAskIsRefused : Obligations.LoneAskIsRefused := by
  unfold Obligations.LoneAskIsRefused
  refine ⟨fun s c k p running quiet ready wf press => ?_, fun s c k running quiet ready wf asks other someLeft press => ?_⟩
  · have live : s.regs.device ≠ .halted := by rw [running]; nofun
    intro drags t
    have dragging : (s.tables.draggable k.group && s.tipHeld c) = true ↔ drags := by
      rw [Bool.and_eq_true, Tables.draggable_iff, and_assoc]
    refine ⟨fun sheet i armed => State.pickElement_disarms k quiet live ready wf armed, fun unarmed moves => ?_,
      fun unarmed still someLeft => State.pickElement_records quiet live ready wf press unarmed (fun h => still (dragging.mp h)) someLeft⟩
    change s.pickElement c k = _
    rw [State.pickElement_eq, State.disarm_unarmed unarmed, State.andThen_live (s := s) _ live, State.askOrRecord, press]
    exact if_pos (dragging.mpr moves)
  · intro held refused
    by_cases taken : held
    · have answer := answerOne_held taken
      cases contest : (s.chanConfig c).contest with
      | pickOnly =>
        have told : (s.grant c k .contested).afterAnswer c k .contested =
            (((s.setAsk c none).recordPick c k.pick { contested := true } false).andThen fun u =>
              u.onChan c fun x => x.leavePressed.goto .watch).andThen fun u => u.choose u.closeClaims c := by
          rw [State.grant_refused (r := .contested) nofun, State.afterAnswer]
          rw [show ((s.setAsk c none).chanConfig c).contest = .pickOnly from contest]
        obtain ⟨left, record, memory⟩ := State.stepAsks_pickOnly running quiet ready wf asks other someLeft answer _ told
        exact ⟨_, rfl, left.entries, left.asks, left.mode, left.table, left.press, fun free => absurd taken free,
          fun _ _ => record, fun _ is => (nomatch is), left.other, left.beam, memory⟩
      | refuse =>
        obtain ⟨left, record, kept, memory⟩ := State.stepAsks_refuse running quiet ready wf asks other press answer contest
        exact ⟨_, rfl, left.entries, left.asks, left.mode, left.table, left.press, fun free => absurd taken free,
          fun _ is => (nomatch is), fun _ _ => ⟨record, kept⟩, left.other, left.beam, memory⟩
    · have answer := answerOne_full taken (refused.resolve_left taken)
      obtain ⟨left, record, memory⟩ := State.stepAsks_pickOnly running quiet ready wf asks other someLeft answer { noTrack := true } rfl
      exact ⟨_, rfl, left.entries, left.asks, left.mode, left.table, left.press, fun _ => record,
        fun is => absurd is taken, fun is => absurd is taken, left.other, left.beam, memory⟩

end Sys2Proof.Machine

/-! Two asks for one tag. -/

namespace Sys2Proof.Machine

section
variable {s t : State} {c : Chan} {y : Channel} {k : List Claim}

theorem Within.asks (h : Within c s t y k) : t.claims.asks = s.claims.asks := by
  obtain ⟨e, m, l, cause, lost, rfl, wf⟩ := h
  rfl

theorem Within.recordPick (h : Within c s t y k) (quiet : s.busQuiet) (live : s.regs.device ≠ .halted) (p : Pick) (n : Notes)
    (tracking : Bool) : ∃ col, Within c s (t.recordPick c p n tracking) { y with collection := col } k := by
  have placed := (h.onChan fun x => { x with collection := (collectTag (t.chan c).collection p.tag).2.2 }).record quiet
    { n with echo := p.echo, again := (collectTag (t.chan c).collection p.tag).2.1 }
    (.pick p (loftPoint t.tables p.group p.point) (collectTag (t.chan c).collection p.tag).1 tracking)
  unfold State.recordPick
  dsimp only
  by_cases last : (collectTag (t.chan c).collection p.tag).2.2.map Collection.remaining = some 0
  · refine ⟨none, Within.andThen placed live ?_⟩
    rw [if_pos last]
    exact placed.endCollection quiet live .complete
  · refine ⟨(collectTag (t.chan c).collection p.tag).2.2, Within.andThen placed live ?_⟩
    rw [if_neg last]
    exact placed

end

/-- The channel's mode once its answer is told. -/
def Answer.mode (r : Answer) (before : Mode) : Mode :=
  match r with
  | .granted => before
  | .contested => .watch
  | .full => .watch

/-- Telling a channel its answer is work on that channel alone, and its ask is gone. -/
theorem State.afterAnswer_within {s : State} (quiet : s.busQuiet) (live : s.regs.device ≠ .halted) (c : Chan) (k : Ask) (r : Answer) :
    ∃ y, Within c (s.setAsk c none) (s.afterAnswer c k r) y s.claims.entries ∧ y.mode = r.mode (s.chan c).mode := by
  have start : Within c (s.setAsk c none) (s.setAsk c none) (s.chan c) s.claims.entries := Within.refl _ c
  have watches : ∀ n : Notes, ∃ y, Within c (s.setAsk c none) (((s.setAsk c none).recordPick c k.pick n false).andThen fun u =>
      u.onChan c fun x => x.leavePressed.goto .watch) y s.claims.entries ∧ y.mode = .watch := fun n => by
    obtain ⟨col, picked⟩ := start.recordPick quiet live k.pick n false
    exact ⟨_, Within.andThen picked live (picked.onChan fun x => x.leavePressed.goto .watch), rfl⟩
  have told : ∀ {t : State} {y : Channel}, Within c (s.setAsk c none) t y s.claims.entries →
      Within c (s.setAsk c none) (t.andThen fun u => u.choose u.closeClaims c) y s.claims.entries := fun h =>
    Within.andThen h live (h.choose _ c)
  cases r with
  | granted =>
    obtain ⟨col, picked⟩ := start.recordPick quiet live k.pick {} true
    exact ⟨_, told picked, rfl⟩
  | full =>
    obtain ⟨y, done, mode⟩ := watches { noTrack := true }
    exact ⟨y, told done, mode⟩
  | contested =>
    cases contest : ((s.setAsk c none).chanConfig c).contest with
    | pickOnly =>
      obtain ⟨y, done, mode⟩ := watches { contested := true }
      refine ⟨y, ?_, mode⟩
      rw [State.afterAnswer, contest]
      exact told done
    | refuse =>
      have missed := start.missAndGo quiet live .contested (some (k.pick.group, k.pick.tag)) k.pick.echo .watch
      refine ⟨(s.chan c).leavePressed.goto .watch, ?_, rfl⟩
      rw [State.afterAnswer, contest]
      exact told missed

/-- Both channels do their work at one moment, one of them first. -/
theorem State.eachChan_order (s : State) (f : Chan → State → State) :
    ∃ d n, s.eachChan f = (f d { s with choices := n }).andThen (f (otherChan d)) := by
  unfold State.eachChan
  dsimp only
  split
  · exact ⟨.b, _, rfl⟩
  · exact ⟨.a, _, rfl⟩

/-- Two channels told their answers, in either order. -/
theorem State.tellBoth {s : State} (quiet : s.busQuiet) (live : s.regs.device ≠ .halted) (k : Chan → Ask) (r : Chan → Answer) :
    ∃ t, (s.eachChan fun c v => v.afterAnswer c (k c) (r c)) = t ∧ t.busQuiet ∧ t.regs.device ≠ .halted ∧
      t.claims.entries = s.claims.entries ∧ t.claims.asks = ⟨none, none⟩ ∧ ∀ c, (t.chan c).mode = (r c).mode (s.chan c).mode := by
  obtain ⟨d, n, order⟩ := s.eachChan_order fun c v => v.afterAnswer c (k c) (r c)
  let v : State := { s with choices := n }
  obtain ⟨y, one, mode⟩ := State.afterAnswer_within (s := v) quiet live d (k d) (r d)
  rw [State.andThen_live _ (one.live live)] at order
  obtain ⟨y', two, mode'⟩ := State.afterAnswer_within (one.quiet quiet) (one.live live) (otherChan d) (k (otherChan d)) (r (otherChan d))
  have first := two.other
  have second := one.other
  refine ⟨_, order, two.quiet (one.quiet quiet), two.live (one.live live), two.entries.trans one.entries, ?_, fun c => ?_⟩
  · rw [two.asks, State.setAsk, one.asks]
    cases d <;> rfl
  · rcases chan_eq_or_other d c with rfl | rfl
    · have back : otherChan (otherChan c) = c := by cases c <;> rfl
      rw [back] at first
      exact (congrArg Channel.mode (first.trans one.chan)).trans mode
    · exact ((congrArg Channel.mode two.chan).trans mode').trans (congrArg (fun x : Channel => (r _).mode x.mode) second)

/-! ### Which of two presses is earlier -/

theorem framesBack_eq {closing frame : Nat} (h : frame < 65536) : framesBack closing frame = (closing + 65536 - frame) % 65536 := by
  rw [framesBack, Nat.mod_eq_of_lt h]

theorem pressAFirst_iff (closing : Nat) (pa pb : Press) : pressAFirst closing pa pb = true ↔
    framesBack closing pb.frame < framesBack closing pa.frame ∨
      (framesBack closing pa.frame = framesBack closing pb.frame ∧ pa.clock ≤ pb.clock) := by
  rw [pressAFirst]
  split
  next same => rw [decide_eq_true_iff]; omega
  next apart => rw [decide_eq_true_iff]; omega

/-- The answers to two asks for one free tag: the first gets it. -/
theorem State.decideAsks_both {s : State} {ka kb : Ask} (asks : s.claims.asks = ⟨some ka, some kb⟩)
    (same : ka.pick.tag = kb.pick.tag) (free : ∀ e ∈ s.claims.entries, e.tag ≠ ka.pick.tag) (room : s.claims.entries.length < 8) :
    s.decideAsks = if pressAFirst s.beam.frame ka.press kb.press then
        (s.grant .a ka .granted).eachChan fun c v => v.afterAnswer c (Pair.get ⟨ka, kb⟩ c) (Pair.get ⟨.granted, .contested⟩ c)
      else (s.grant .b kb .granted).eachChan fun c v => v.afterAnswer c (Pair.get ⟨ka, kb⟩ c) (Pair.get ⟨.contested, .granted⟩ c) := by
  have answer : ∀ k : Ask, k.pick.tag = ka.pick.tag → answerOne s.claims.entries k = .granted := fun k is => by
    rw [answerOne, is, holderOf_eq_none free, if_neg (by decide)]
    exact if_pos room
  have told : ∀ (t : State) (ra rb : Answer), (t.eachChan fun c v => match c with
      | .a => v.afterAnswer .a ka ra | .b => v.afterAnswer .b kb rb) =
        t.eachChan fun c v => v.afterAnswer c (Pair.get ⟨ka, kb⟩ c) (Pair.get ⟨ra, rb⟩ c) :=
    fun t ra rb => congrArg t.eachChan (funext fun c => by cases c <;> rfl)
  unfold State.decideAsks
  rw [asks]
  dsimp only
  cases first : pressAFirst s.beam.frame ka.press kb.press with
  | true =>
    simp only [if_true, answer ka rfl, if_pos same]
    rw [State.grant_refused (r := .contested) nofun]
    exact told _ _ _
  | false =>
    simp only [Bool.false_eq_true, if_false, answer kb same.symm, if_pos same]
    rw [State.grant_refused (r := .contested) nofun]
    exact told _ _ _

/-- What the step leaves where one channel's ask is granted and the other's contested. -/
theorem State.stepAsks_won {s : State} {w : Chan} {k : Chan → Ask} {r : Chan → Answer} (running : s.regs.device = .running)
    (quiet : s.busQuiet) (any : s.claims.asks.a.isSome)
    (decided : s.decideAsks = (s.grant w (k w) .granted).eachChan fun c v => v.afterAnswer c (k c) (r c))
    (wins : r w = .granted) (loses : r (otherChan w) = .contested) :
    s.stepAsks.claims.asks = ⟨none, none⟩ ∧
      s.stepAsks.claims.entries = s.claims.entries ++ [⟨(k w).pick.tag, .pen w⟩] ∧ (s.stepAsks.chan w).mode = .tracking ∧
      (s.stepAsks.chan (otherChan w)).mode = .watch := by
  have live : (s.grant w (k w) .granted).regs.device ≠ .halted := by
    rw [show (s.grant w (k w) .granted).regs = s.regs from rfl, running]; nofun
  have tracks : ((s.grant w (k w) .granted).chan w).mode = .tracking := by cases w <;> rfl
  obtain ⟨t, told, quietT, liveT, kept, cleared, modes⟩ := State.tellBoth (s := s.grant w (k w) .granted) quiet live k r
  have step : s.stepAsks = t.finishFrame := by
    rw [State.stepAsks, if_pos ⟨running, .inl any⟩, decided, told]
    exact State.andThen_live _ liveT
  have done := State.finishFrame_finished quietT liveT
  have won := modes w
  have lost := modes (otherChan w)
  rw [wins] at won
  rw [loses] at lost
  rw [step, done.asks, done.entries, done.chan, done.chan]
  exact ⟨cleared, kept, won.trans tracks, lost⟩

/-- Settles O39: the first in the order of press is granted, the second contested. -/
theorem earlierPressWins : Obligations.EarlierPressWins := by
  unfold Obligations.EarlierPressWins
  intro s ka kb running quiet asks same free room frame frameA frameB back
  have any : s.claims.asks.a.isSome := by rw [asks]; rfl
  have decided := State.decideAsks_both asks same free room
  have first := pressAFirst_iff s.beam.frame ka.press kb.press
  rw [framesBack_eq frameA, framesBack_eq frameB] at first
  cases order : pressAFirst s.beam.frame ka.press kb.press with
  | true =>
    rw [order, if_pos rfl] at decided
    obtain ⟨cleared, entries, won, lost⟩ := State.stepAsks_won (w := .a) (k := Pair.get ⟨ka, kb⟩) (r := Pair.get ⟨.granted, .contested⟩) running quiet
      any decided rfl rfl
    have a := first.mp order
    exact ⟨_, rfl, cleared, fun _ => ⟨entries, won, lost⟩, fun b => absurd b (by simp only [back]; omega)⟩
  | false =>
    rw [order, if_neg Bool.false_ne_true] at decided
    obtain ⟨cleared, entries, won, lost⟩ := State.stepAsks_won (w := .b) (k := Pair.get ⟨ka, kb⟩) (r := Pair.get ⟨.contested, .granted⟩) running quiet
      any decided rfl rfl
    exact ⟨_, rfl, cleared, fun a => absurd (first.mpr a) (by rw [order]; decide), fun _ => ⟨entries.trans (by rw [same]; rfl), won, lost⟩⟩

end Sys2Proof.Machine

/-! The cross update, and the frame end in TRACKING. -/

namespace Sys2Proof.Machine

/-! ### The strike on an arm -/

/-- What one result gives an arm of the cross: its hit and whether it carried ECHO. -/
def armHit (c : Chan) (i : Nat) (r : StrikeResult) : Option (Hit × Bool) :=
  match r.verdict with
  | .resolved h => if h.group = 63 ∧ h.tag = armBase c + i then some (h, r.echo) else none
  | .blank => none
  | .forbidden => none
  | .trailShort => none

theorem armStrike_eq (rs : List StrikeResult) (c : Chan) (i : Nat) : armStrike rs c i = rs.findSome? (armHit c i) := rfl

theorem armHit_eq_some_iff {c : Chan} {i : Nat} {r : StrikeResult} {h : Hit × Bool} :
    armHit c i r = some h ↔ r = ⟨.resolved h.1, h.2⟩ ∧ h.1.group = 63 ∧ h.1.tag = armBase c + i := by
  obtain ⟨v, echo⟩ := r
  obtain ⟨hit, b⟩ := h
  unfold armHit
  cases v with
  | resolved x =>
    by_cases on : x.group = 63 ∧ x.tag = armBase c + i
    · simp only [if_pos on, Option.some.injEq, Prod.mk.injEq, StrikeResult.mk.injEq, Verdict.resolved.injEq]
      exact ⟨fun ⟨is, same⟩ => ⟨⟨is, same⟩, is ▸ on⟩, fun ⟨both, _⟩ => both⟩
    · simp only [if_neg on, StrikeResult.mk.injEq, Verdict.resolved.injEq]
      exact ⟨nofun, fun ⟨⟨is, _⟩, h⟩ => absurd (is ▸ h) on⟩
  | blank => exact ⟨nofun, fun ⟨is, _⟩ => nomatch is⟩
  | forbidden => exact ⟨nofun, fun ⟨is, _⟩ => nomatch is⟩
  | trailShort => exact ⟨nofun, fun ⟨is, _⟩ => nomatch is⟩

theorem armHit_eq_none_iff {c : Chan} {i : Nat} {r : StrikeResult} :
    armHit c i r = none ↔ ¬∃ h, r.verdict = .resolved h ∧ h.group = 63 ∧ h.tag = armBase c + i := by
  rw [Option.eq_none_iff_forall_ne_some]
  refine ⟨fun none ⟨h, is, on⟩ => none (h, r.echo) (armHit_eq_some_iff.mpr ⟨?_, on⟩), fun off h is => ?_⟩
  · obtain ⟨v, echo⟩ := r
    obtain rfl : v = .resolved h := is
    rfl
  · obtain ⟨rfl, on⟩ := armHit_eq_some_iff.mp is
    exact off ⟨h.1, rfl, on⟩

theorem length_filterMap_map {α β : Type} (f : α → Option β) (l : List α) :
    ((l.map f).filterMap id).length = (l.filter fun i => (f i).isSome).length := by
  induction l with
  | nil => rfl
  | cons i l ih =>
    cases h : f i with
    | none => simpa [h] using ih
    | some x => simpa [h] using ih

/-! ### Coordinates -/

theorem clampCoord_cast (v : Int) : (clampCoord v : Int) = max 0 (min 4095 v) := by
  rw [clampCoord, clampInt_eq _ (by decide)]
  omega

theorem clampCoord_le (v : Int) : clampCoord v ≤ 4095 := by
  have := clampCoord_cast v
  omega

theorem clampCoord_natCast (n : Nat) : clampCoord (n : Int) = min n 4095 := by
  have := clampCoord_cast n
  omega

theorem clampCoord_ne_iff (v : Int) : (clampCoord v : Int) ≠ v ↔ v < 0 ∨ 4095 < v := by
  rw [clampCoord_cast]
  omega

/-- One arm struck moves the axis to the struck coordinate. -/
theorem axisUpdate_plus (old s v : Nat) : axisUpdate old (some (s, v)) none = v := by
  rw [axisUpdate]
  omega

theorem axisUpdate_minus (old s v : Nat) : axisUpdate old none (some (s, v)) = v := by
  rw [axisUpdate]
  omega

/-- Two arms struck move it by the rounded mean of the two displacements. -/
theorem axisUpdate_both (old s v r w : Nat) :
    ∃ q, isRounded q (((v : Int) - s) + ((w : Int) - r)) 2 ∧ axisUpdate old (some (s, v)) (some (r, w)) = s + q :=
  ⟨_, isRounded_roundDiv _ (by decide), rfl⟩

/-! ### The cross update -/

/-- The coordinate of one axis, by its struck arms. -/
theorem clampCoord_axisUpdate (old : Nat) (f : Hit → Nat × Nat) (plus minus : Option (Hit × Bool)) :
    let v := clampCoord (axisUpdate old (plus.map fun h => f h.1) (minus.map fun h => f h.1))
    (plus = none → minus = none → old ≤ 4095 → v = old) ∧
      (∀ e, plus = some e → minus = none → v = min (f e.1).2 4095) ∧
      (∀ w, plus = none → minus = some w → v = min (f w.1).2 4095) ∧
      ∀ e w, plus = some e → minus = some w → ∃ q,
        isRounded q ((((f e.1).2 : Int) - (f e.1).1) + (((f w.1).2 : Int) - (f w.1).1)) 2 ∧
          (v : Int) = max 0 (min 4095 ((f e.1).1 + q)) := by
  refine ⟨?_, ?_, ?_, ?_⟩
  · rintro rfl rfl inside
    exact (clampCoord_natCast old).trans (by omega)
  · rintro e rfl rfl
    exact (congrArg clampCoord (axisUpdate_plus old _ _)).trans (clampCoord_natCast _)
  · rintro w rfl rfl
    exact (congrArg clampCoord (axisUpdate_minus old _ _)).trans (clampCoord_natCast _)
  · rintro e w rfl rfl
    obtain ⟨q, rounded, is⟩ := axisUpdate_both old (f e.1).1 (f e.1).2 (f w.1).1 (f w.1).2
    exact ⟨q, rounded, (congrArg (fun v => (clampCoord v : Int)) is).trans (clampCoord_cast _)⟩

theorem armStrike_eq_none_iff {rs : List StrikeResult} {c : Chan} {i : Nat} :
    armStrike rs c i = none ↔ ∀ x ∈ rs, ¬∃ h, x.verdict = .resolved h ∧ h.group = 63 ∧ h.tag = armBase c + i := by
  rw [armStrike_eq, List.findSome?_eq_none_iff]
  simp only [armHit_eq_none_iff]

theorem armStrike_eq_some {rs : List StrikeResult} {c : Chan} {i : Nat} {h : Hit × Bool} (is : armStrike rs c i = some h) :
    h.1.group = 63 ∧ h.1.tag = armBase c + i ∧ ∃ pre post, rs = pre ++ ⟨.resolved h.1, h.2⟩ :: post ∧
      ∀ x ∈ pre, ¬∃ h, x.verdict = .resolved h ∧ h.group = 63 ∧ h.tag = armBase c + i := by
  rw [armStrike_eq] at is
  obtain ⟨pre, r, post, split, hit, before⟩ := List.findSome?_eq_some_iff.mp is
  obtain ⟨rfl, group, tag⟩ := armHit_eq_some_iff.mp hit
  exact ⟨group, tag, pre, post, split, fun x mem => armHit_eq_none_iff.mp (before x mem)⟩

theorem any_echo_iff (f : Nat → Option (Hit × Bool)) :
    (([0, 1, 2, 3].map f).filterMap id).any Prod.snd = true ↔ ∃ i h, i < 4 ∧ f i = some h ∧ h.2 = true := by
  rw [List.any_eq_true]
  simp only [List.mem_filterMap, List.mem_map, id]
  constructor
  · rintro ⟨h, ⟨_, ⟨i, mem, rfl⟩, is⟩, echo⟩
    refine ⟨i, h, ?_, is, echo⟩
    simp only [List.mem_cons, List.not_mem_nil, or_false] at mem
    omega
  · rintro ⟨i, h, low, is, echo⟩
    refine ⟨h, ⟨_, ⟨i, ?_, rfl⟩, is⟩, echo⟩
    simp only [List.mem_cons, List.not_mem_nil, or_false]
    omega

/-! ### The frame end in TRACKING -/

/-- What the frame end in TRACKING does once the centre has moved and the loss count is set. -/
def State.endTrackFrame (v : State) (c : Chan) : State :=
  if !v.tipHeld c then v.endTracking c .dropped
  else if (v.chanConfig c).lossLimit ≤ (v.chan c).loss then v.owe c (some .lost)
  else v

/-- The channel after the update of its cross. -/
def Channel.crossMoved (x : Channel) (c : Chan) : Channel :=
  let u := crossUpdate c x.centre x.results
  { x with
    centre := u.1
    echoInCentre := if u.1 ≠ x.centre then u.2.2.2 else x.echoInCentre
    duration := min (x.duration + 1) 65535
    loss := if 0 < u.2.2.1 then 0 else x.loss + 1 }

section
variable {s : State} {c : Chan}

theorem State.trackFrame_eq (s : State) (c : Chan) :
    s.trackFrame c = (((s.onChan c fun x => { x with duration := min (x.duration + 1) 65535 }).moveCentre c).andThen fun u =>
      (u.onChan c fun x => { x with
        loss := if 0 < (crossUpdate c (s.chan c).centre (s.chan c).results).2.2.1 then 0 else x.loss + 1 }).endTrackFrame c) := rfl

/-- Where the update leaves the centre nothing is recorded. -/
theorem State.trackFrame_still (live : s.regs.device ≠ .halted)
    (still : (crossUpdate c (s.chan c).centre (s.chan c).results).1 = (s.chan c).centre) :
    s.trackFrame c = (s.onChan c fun x => x.crossMoved c).endTrackFrame c := by
  let t := s.onChan c fun x => { x with duration := min (x.duration + 1) 65535 }
  have chan : t.chan c = { s.chan c with duration := min ((s.chan c).duration + 1) 65535 } := State.chan_onChan _ _ _
  have stays : t.moveCentre c = t := by
    unfold State.moveCentre
    dsimp only
    rw [chan]
    exact if_pos still
  rw [State.trackFrame_eq]
  change (t.moveCentre c).andThen _ = _
  rw [stays, State.andThen_live (s := t) _ live, State.onChan_onChan]
  refine congrArg (State.endTrackFrame · c) (congrArg (s.setChan c) ?_)
  unfold Channel.crossMoved
  dsimp only
  rw [if_neg (not_not.mpr still), still]

/-- Where the update moves the centre the TRACK record shows it. -/
theorem State.trackFrame_moved (quiet : s.busQuiet) (live : s.regs.device ≠ .halted) (ready : s.logReady) (wf : Memory.wf s.mem)
    {g tag : Nat} (tracked : (s.chan c).tracked = some (g, tag))
    (moved : (crossUpdate c (s.chan c).centre (s.chan c).results).1 ≠ (s.chan c).centre) :
    let u := crossUpdate c (s.chan c).centre (s.chan c).results
    ∃ m, s.trackFrame c = ((s.onChan c fun x => x.crossMoved c).noted m).endTrackFrame c ∧ Memory.wf m ∧
      recorded s ((s.onChan c fun x => x.crossMoved c).noted m) ⟨.chan c, s.beam.frame, { edge := u.2.1, echo := u.2.2.2 },
        .track g tag u.1 (loftPoint s.tables g u.1) u.2.2.1⟩ ∧
      sameExcept s ((s.onChan c fun x => x.crossMoved c).noted m) [s.slotRange] := by
  intro u
  let t := s.onChan c fun x => { x with duration := min (x.duration + 1) 65535 }
  let w := t.onChan c fun y => { y with centre := u.1, echoInCentre := u.2.2.2 }
  have chan : t.chan c = { s.chan c with duration := min ((s.chan c).duration + 1) 65535 } := State.chan_onChan _ _ _
  obtain ⟨m, placed, kept, made, same⟩ := State.record_noted (s := w) quiet live ready wf c { edge := u.2.1, echo := u.2.2.2 }
    (.track g tag u.1 (loftPoint s.tables g u.1) u.2.2.1)
  have moves : t.moveCentre c = w.noted m := by
    unfold State.moveCentre
    dsimp only
    rw [chan]
    refine (if_neg moved).trans ?_
    dsimp only
    rw [tracked]
    exact placed
  refine ⟨m, ?_, kept, made, same⟩
  rw [State.trackFrame_eq]
  change (t.moveCentre c).andThen _ = _
  rw [moves, State.andThen_live (s := w.noted m) _ live]
  refine congrArg (State.endTrackFrame · c) ?_
  have channel : (s.chan c).crossMoved c = { s.chan c with
      centre := u.1, echoInCentre := u.2.2.2, duration := min ((s.chan c).duration + 1) 65535,
      loss := if 0 < u.2.2.1 then 0 else (s.chan c).loss + 1 } := by
    unfold Channel.crossMoved
    dsimp only
    rw [if_pos moved]
  have onto : ∀ f : Channel → Channel, (w.noted m).onChan c f = (s.setChan c (f (w.chan c))).noted m := fun f => by cases c <;> rfl
  have before : w.chan c = { s.chan c with
      centre := u.1, echoInCentre := u.2.2.2, duration := min ((s.chan c).duration + 1) 65535 } := by cases c <;> rfl
  refine (onto _).trans ?_
  rw [before, State.onChan, channel]

/-- A tracking goes on: LOST is owed at the loss limit, and nothing else changes. -/
theorem State.endTrackFrame_held {v : State} (held : v.tipHeld c = true) (unowed : v.work.owed.get c = none) :
    (v.endTrackFrame c).work.owed.get c = (if (v.chanConfig c).lossLimit ≤ (v.chan c).loss then some .lost else none) ∧
      ∃ w, v.endTrackFrame c = { v with work := w } := by
  unfold State.endTrackFrame
  rw [if_neg (by rw [held]; decide)]
  split
  · exact ⟨by rw [State.owe, Pair.get_set, if_pos rfl], _, rfl⟩
  · exact ⟨unowed, _, rfl⟩

/-- The end of a tracking whose record is placed. -/
theorem State.endTracking_placed {v w : State} {e : EndReason} {g tag : Nat} (tracked : (v.chan c).tracked = some (g, tag))
    (placed : v.record c { echo := e == .lost && (v.chan c).echoInCentre }
      (.trackEnd g tag (v.chan c).centre (loftPoint v.tables g (v.chan c).centre) e (v.chan c).duration) = w)
    (live : w.regs.device ≠ .halted) :
    v.endTracking c e = (w.onClaims fun k => withoutPen k c).onChan c fun x => x.leaveTracking.goto .watch := by
  rw [State.endTracking, State.closeTracking, tracked, Option.getD_some, placed, State.andThen_live (s := w) _ live]
  exact State.andThen_live _ live

end

/-- The frame end in TRACKING, with the tip held and with it not held. -/
theorem State.trackFrame_recorded {s : State} {c : Chan} {g tag : Nat} (running : s.regs.device = .running) (quiet : s.busQuiet)
    (ready : s.logReady) (wf : Memory.wf s.mem) (tracked : (s.chan c).tracked = some (g, tag)) (unowed : s.work.owed.get c = none) :
    let x := s.chan c
    let u := crossUpdate c x.centre x.results
    let moved := u.1 ≠ x.centre
    let t := s.trackFrame c
    let track : Record := ⟨.chan c, s.beam.frame, { edge := u.2.1, echo := u.2.2.2 },
      .track g tag u.1 (loftPoint s.tables g u.1) u.2.2.1⟩
    let dropped : Record := ⟨.chan c, s.beam.frame, {},
      .trackEnd g tag u.1 (loftPoint s.tables g u.1) .dropped (min (x.duration + 1) 65535)⟩
    let y : Channel := x.crossMoved c
    (s.tipHeld c = true →
      t.chan c = y ∧ t.claims = s.claims ∧
        t.work.owed.get c = (if (s.chanConfig c).lossLimit ≤ y.loss then some .lost else none) ∧
        (moved → recorded s t track ∧ sameExcept s t [s.slotRange]) ∧ (¬moved → unrecorded s t ∧ t.mem = s.mem)) ∧
    (s.tipHeld c = false →
      t.chan c = { y with mode := .watch, tracked := none, loss := 0, duration := 0, echoInCentre := false } ∧
        t.claims = { s.claims with entries := s.claims.entries.filter fun k => k.holder != .pen c } ∧
        t.work.owed.get c = none ∧
        (moved → recordedBoth s t track dropped ∧ sameExcept s t [s.slotRange, s.secondRange]) ∧
        (¬moved → recorded s t dropped ∧ sameExcept s t [s.slotRange])) ∧
    t.chan (otherChan c) = s.chan (otherChan c) ∧ t.menus = s.menus ∧ t.beam = s.beam := by
  have live : s.regs.device ≠ .halted := by rw [running]; nofun
  intro x u moved t track dropped y
  let base := s.onChan c fun x => x.crossMoved c
  have chan : base.chan c = y := State.chan_onChan _ _ _
  have other : base.chan (otherChan c) = s.chan (otherChan c) := State.chan_onChan_other _ _ _
  have after : ∀ v : State, v.chan c = y → v.tipHeld c = true → v.work.owed.get c = none →
      (v.endTrackFrame c).work.owed.get c = if (v.chanConfig c).lossLimit ≤ y.loss then some .lost else none := fun v is held none => by
    rw [(State.endTrackFrame_held held none).1, is]
  have away : ∀ v w : State, v.chan c = y → v.tipHeld c = false → v.regs.device ≠ .halted → v.record c {}
      (.trackEnd g tag u.1 (loftPoint v.tables g u.1) .dropped (min (x.duration + 1) 65535)) = w → w.regs.device ≠ .halted →
      v.endTrackFrame c = (w.onClaims fun k => withoutPen k c).onChan c fun x => x.leaveTracking.goto .watch := fun v w is free _ placed works => by
    rw [State.endTrackFrame, if_pos (by rw [free]; rfl)]
    refine State.endTracking_placed (g := g) (tag := tag) (by rw [is]; exact tracked) ?_ works
    rw [is]
    exact placed
  have chan' : ∀ (m : List Host.Cell) (l : LogWriter), ((((base.logged m l true s.regs.lost).onClaims fun k => withoutPen k c).onChan c
      fun x => x.leaveTracking.goto .watch)).chan c = y.leaveTracking.goto .watch := fun m l =>
    (State.chan_onChan ((base.logged m l true s.regs.lost).onClaims fun k => withoutPen k c) c _).trans (by cases c <;> rfl)
  have other' : ∀ (m : List Host.Cell) (l : LogWriter), ((((base.logged m l true s.regs.lost).onClaims fun k => withoutPen k c).onChan c
      fun x => x.leaveTracking.goto .watch)).chan (otherChan c) = s.chan (otherChan c) := fun m l =>
    (State.chan_onChan_other ((base.logged m l true s.regs.lost).onClaims fun k => withoutPen k c) c _).trans other
  by_cases moves : moved
  · obtain ⟨m, is, kept, made, same⟩ := State.trackFrame_moved quiet live ready wf tracked moves
    let v := base.noted m
    cases held : s.tipHeld c with
    | true =>
      have owed := after v chan held unowed
      obtain ⟨-, w, ended⟩ := State.endTrackFrame_held (v := v) held unowed
      have t_eq : t = { v with work := w } := is.trans ended
      rw [ended] at owed
      rw [t_eq]
      exact ⟨fun _ => ⟨chan, rfl, owed, fun _ => ⟨made, same⟩, fun still => absurd moves still⟩, nofun, other, rfl, rfl⟩
    | false =>
      obtain ⟨m', l, again, both, range⟩ := State.place_noted_again (u := v) made same {} rfl quiet live kept
        ⟨.chan c, s.beam.frame, {}, .trackEnd g tag u.1 (loftPoint s.tables g u.1) .dropped (min (x.duration + 1) 65535)⟩
      have t_eq : t = _ := is.trans (away v _ chan held live again live)
      rw [t_eq]
      exact ⟨nofun, fun _ => ⟨chan' m' l, rfl, unowed, fun _ => ⟨both, range⟩, fun still => absurd moves still⟩, other' m' l, rfl, rfl⟩
  · have is := State.trackFrame_still live (not_not.mp moves)
    cases held : s.tipHeld c with
    | true =>
      have owed := after base chan held unowed
      obtain ⟨-, w, ended⟩ := State.endTrackFrame_held (v := base) held unowed
      have t_eq : t = { base with work := w } := is.trans ended
      rw [ended] at owed
      rw [t_eq]
      exact ⟨fun _ => ⟨chan, rfl, owed, fun yes => absurd yes moves, fun _ => ⟨⟨rfl, rfl, rfl⟩, rfl⟩⟩, nofun, other, rfl, rfl⟩
    | false =>
      obtain ⟨m, placed, -, made, same⟩ := State.record_noted (s := base) quiet live ready wf c {}
        (.trackEnd g tag u.1 (loftPoint s.tables g u.1) .dropped (min (x.duration + 1) 65535))
      have t_eq : t = _ := is.trans (away base _ chan held live placed live)
      rw [t_eq]
      exact ⟨nofun, fun _ => ⟨chan' m _, rfl, unowed, fun yes => absurd yes moves, fun _ => ⟨made, same⟩⟩, other' m _, rfl, rfl⟩

/-- Settles O40: the cross update by its struck arms, and the frame end that uses it. -/
theorem crossUpdateMoves : Obligations.CrossUpdateMoves := by
  unfold Obligations.CrossUpdateMoves
  refine ⟨fun s c g tag running quiet ready wf _ tracked unowed => State.trackFrame_recorded running quiet ready wf tracked unowed,
    fun c centre rs => ?_⟩
  intro arm u onArm
  obtain ⟨x0, xPlus, xMinus, xBoth⟩ := clampCoord_axisUpdate centre.x Hit.alongX (arm 0) (arm 2)
  obtain ⟨y0, yPlus, yMinus, yBoth⟩ := clampCoord_axisUpdate centre.y Hit.alongY (arm 1) (arm 3)
  refine ⟨fun i => armStrike_eq_none_iff, fun i h is => armStrike_eq_some is, length_filterMap_map arm [0, 1, 2, 3], any_echo_iff arm,
    x0, xPlus, xMinus, xBoth, y0, yPlus, yMinus, yBoth, clampCoord_le _, clampCoord_le _, ?_⟩
  intro exactly onX onY
  have exact_ : ∀ (old : Nat) (one two : Option (Nat × Nat)), exactly old one two (axisUpdate old one two) := fun old one two => by
    cases one with
    | none =>
      cases two with
      | none => rfl
      | some r => exact axisUpdate_minus old r.1 r.2
    | some p =>
      cases two with
      | none => exact axisUpdate_plus old p.1 p.2
      | some r => exact axisUpdate_both old p.1 p.2 r.1 r.2
  refine ⟨axisUpdate centre.x (onX 0) (onX 2), axisUpdate centre.y (onY 1) (onY 3), exact_ _ _ _, exact_ _ _ _, ?_⟩
  have clamped := (clampCoord_ne_iff (axisUpdate centre.x (onX 0) (onX 2))).or (clampCoord_ne_iff (axisUpdate centre.y (onY 1) (onY 3)))
  rw [or_assoc] at clamped
  exact decide_eq_true_iff.trans clamped

end Sys2Proof.Machine

/-! The reads of the tables, and the validation of a copy. -/

namespace Sys2Proof.Machine

/-! ### A look and the end of a read -/

theorem evenRevision_iff (r : Word) : evenRevision r = true ↔ r.toNat % 2 = 0 := by
  rw [evenRevision, Bool.not_eq_true', BitVec.getLsbD, Nat.testBit_zero, decide_eq_false_iff_not]
  omega

theorem State.lookRunning_idle {s : State} {t : TableId} (quiet : s.busQuiet) (idle : s.loader.loads.get t = .idle) :
    s.lookRunning t = if evenRevision (s.revisionWord t) ∧ s.loader.revisions.get t ≠ some (s.revisionWord t) then
      s.setLoad t (.reading (s.revisionWord t) []) else s := by
  rw [State.lookRunning, idle, State.access_quiet quiet]

theorem State.lookRunning_busy {s : State} {t : TableId} (busy : s.loader.loads.get t ≠ .idle) : s.lookRunning t = s := by
  unfold State.lookRunning
  split
  next idle => exact absurd idle busy
  · rfl
  · rfl

theorem State.lookRunning_cases {s : State} (t : TableId) (quiet : s.busQuiet) :
    let r := s.revisionWord t
    (s.loader.loads.get t = .idle → r.toNat % 2 = 0 → s.loader.revisions.get t ≠ some r →
      s.lookRunning t = s.setLoad t (.reading r [])) ∧
    (s.loader.loads.get t ≠ .idle ∨ r.toNat % 2 = 1 ∨ s.loader.revisions.get t = some r → s.lookRunning t = s) := by
  refine ⟨fun idle even new => ?_, fun quietly => ?_⟩
  · rw [State.lookRunning_idle quiet idle, if_pos ⟨(evenRevision_iff _).mpr even, new⟩]
  · by_cases idle : s.loader.loads.get t = .idle
    · rw [State.lookRunning_idle quiet idle]
      refine if_neg fun ⟨even, new⟩ => ?_
      rcases quietly with busy | odd | old
      · exact busy idle
      · have := (evenRevision_iff _).mp even
        omega
      · exact new old
    · exact State.lookRunning_busy idle

theorem State.readEnd_eq {s : State} {t : TableId} {r : Word} {got : List Byte}
    (on : s.regs.device = .loading ∨ s.regs.device = .running) (quiet : s.busQuiet) (reading : s.loader.loads.get t = .reading r got) :
    let copy := validate t (got ++ s.areaBytes (tableOffset t + got.length) (tableLength t - got.length))
    exec (.readEnd t) s = .next (s.setLoad t (if s.revisionWord t = r then .waiting r copy.1 copy.2 else .idle)) := by
  intro copy
  refine congrArg Host.Outcome.next ((if_pos on).trans ?_)
  rw [State.endRead, reading]
  dsimp only
  rw [State.access_quiet quiet]
  dsimp only
  rw [State.access_quiet quiet]
  exact (apply_ite (s.setLoad t) _ _ _).symm

/-! ### Fields judged -/

theorem judge_fst {α : Type} (b : Bool) (v d : α) : (judge b v d).1 = if b = true then v else d := by
  unfold judge
  split <;> rfl

theorem judge_snd {α : Type} (b : Bool) (v d : α) : (judge b v d).2 = if b = true then 0 else 1 := by
  unfold judge
  split <;> rfl

/-- A field that is in its range is kept, with the range as a proposition. -/
theorem judge_fst_of_iff {α : Type} {b : Bool} {p : Prop} [Decidable p] (v d : α) (h : b = true ↔ p) :
    (judge b v d).1 = if p then v else d := by
  rw [judge_fst]
  exact if_congr h rfl rfl

/-- A field out of its range counts as one defaulted field. -/
theorem judge_snd_of_iff {α : Type} {b : Bool} {p : Prop} [Decidable p] (v d : α) (h : b = true ↔ ¬p) :
    (judge b v d).2 = if p then 1 else 0 := by
  rw [judge_snd, if_congr h rfl rfl, ite_not]

theorem judge_snd_toNat {α : Type} {p : Prop} [Decidable p] (v d : α) : (judge (decide p) v d).2 = (decide (¬p)).toNat := by
  rw [judge_snd]
  by_cases h : p
  · simp [h]
  · simp [h]

/-- A code out of its range reads as the default anyway. -/
theorem judge_fst_code {α : Type} {p : Prop} [Decidable p] {v d : α} (out : ¬p → v = d) : (judge (decide p) v d).1 = v := by
  rw [judge_fst]
  split
  · rfl
  next no => exact (out (by simpa using no)).symm

theorem edge_judged (v : Nat) : (judge (decide (v ≤ 1)) (edgeOf v) .rising).1 = edgeOf v :=
  judge_fst_code fun out => if_neg (by omega)

theorem trigger_judged (v : Nat) : (judge (decide (v ≤ 2)) (triggerOf v) .tip).1 = triggerOf v :=
  judge_fst_code fun out => by rw [triggerOf, if_neg (by omega), if_neg (by omega)]

theorem guard_judged (v : Nat) : (judge (decide (v ≤ 3)) (guardOf v) .none).1 = guardOf v :=
  judge_fst_code fun out => by rw [guardOf, if_neg (by omega), if_neg (by omega), if_neg (by omega)]

theorem contest_judged (v : Nat) : (judge (decide (v ≤ 1)) (contestOf v) .pickOnly).1 = contestOf v :=
  judge_fst_code fun out => if_neg (by omega)

/-- A flag out of its range reads as 0. -/
theorem flag_judged (v : Nat) : (judge (decide (v ≤ 1)) (v == 1) false).1 = true ↔ v = 1 := by
  rw [judge_fst_code fun out => beq_eq_false_iff_ne.mpr (by omega), beq_iff_eq]

theorem defaultedCount_le (n : Nat) : defaultedCount n ≤ 255 := Nat.min_le_right _ _

theorem bitAt_zero_iff (img : List Byte) (i : Nat) : bitAt img i 0 = true ↔ u8 img i % 2 = 1 := by
  rw [bitAt, BitVec.getLsbD, Nat.testBit_zero, decide_eq_true_iff]
  rfl

/-! ### The configuration table -/

theorem assignment_fst (v : Nat) (d : Fin 8) :
    (assignment v (some d)).1 = if h : v < 8 then some ⟨v, h⟩ else if v = 255 then none else some d := by
  unfold assignment
  split
  · rfl
  · split
    · rfl
    · rfl

/-- An assignment that an earlier one names becomes NONE (R146). -/
theorem checkRepeats_getElem? (xs : List (Option (Fin 8) × Nat)) (named : List (Fin 8)) (i : Nat) :
    (checkRepeats xs named).1[i]? = (xs[i]?).map fun x =>
      if ∃ j, x.1 = some j ∧ (j ∈ named ∨ some j ∈ (xs.map Prod.fst).take i) then none else x.1 := by
  induction xs generalizing named i with
  | nil => rfl
  | cons x xs ih =>
    obtain ⟨_ | k, n⟩ := x
    · rw [checkRepeats]
      cases i with
      | zero => simp
      | succ i => simp [ih]
    · rw [checkRepeats]
      split
      next mem =>
        have mem : k ∈ named := by simpa using mem
        cases i with
        | zero => simp [mem]
        | succ i =>
          simp only [List.getElem?_cons_succ, ih, List.map_cons, List.take_succ_cons, List.mem_cons]
          refine congrArg (Option.map · _) (funext fun x => if_congr (exists_congr fun j => and_congr_right fun _ => ?_) rfl rfl)
          rw [Option.some.injEq]
          exact ⟨fun h => h.imp_right .inr, fun h => h.elim .inl fun h => h.elim (fun is => .inl (is ▸ mem)) .inr⟩
      next new =>
        have new : k ∉ named := by simpa using new
        cases i with
        | zero => simp [new]
        | succ i =>
          simp only [List.getElem?_cons_succ, ih, List.map_cons, List.take_succ_cons, List.mem_cons]
          refine congrArg (Option.map · _) (funext fun x => if_congr (exists_congr fun j => and_congr_right fun _ => ?_) rfl rfl)
          rw [Option.some.injEq, or_assoc, or_left_comm]

/-- The four assignments, each checked against the ones before it. -/
theorem checkRepeats_four (w x y z : Option (Fin 8) × Nat) :
    let raw := [w.1, x.1, y.1, z.1]
    let assigned := (checkRepeats [w, x, y, z] []).1
    [assigned.getD 0 none, assigned.getD 1 none, assigned.getD 2 none, assigned.getD 3 none] =
      (List.range 4).map fun i => if raw.getD i none ∈ raw.take i then none else raw.getD i none := by
  intro raw assigned
  have each : ∀ i, assigned.getD i none = if raw.getD i none ∈ raw.take i then none else raw.getD i none := fun i => by
    have at_ := checkRepeats_getElem? [w, x, y, z] [] i
    have same : raw[i]? = ([w, x, y, z][i]?).map Prod.fst := by
      rw [← List.getElem?_map]
      rfl
    rw [List.getD_eq_getElem?_getD, List.getD_eq_getElem?_getD, show assigned[i]? = _ from at_, same]
    cases [w, x, y, z][i]? with
    | none => simp
    | some v =>
      obtain ⟨_ | j, n⟩ := v
      · simp
      · simp [raw]
  exact List.map_congr_left (l := [0, 1, 2, 3]) fun i _ => each i

/-- A channel's block of the configuration table. -/
theorem channelBlock_fields (img : List Byte) (o : Nat) :
    let field := fun i lo hi d : Nat => if lo ≤ u8 img i ∧ u8 img i ≤ hi then u8 img i else d
    let x := (channelBlock img o).1
    x.cableClass = field (o + 1) 0 3 0 ∧ x.delayOverride = (if u16 img (o + 4) ≤ 511 then u16 img (o + 4) else 0) ∧
      x.aperture = u8 img (o + 6) ∧ x.glareThreshold = field (o + 7) 4 250 60 ∧ x.m = field (o + 8) 1 15 6 ∧
      x.k = field (o + 9) 1 x.m (min 3 x.m) ∧ x.pressWindow = field (o + 10) 1 15 8 ∧ x.home = field (o + 12) 0 31 0 ∧
      x.guardExp = field (o + 14) 0 16 0 ∧ x.lossLimit = field (o + 17) 1 15 4 ∧
      x.armLength = (if 8 ≤ u16 img (o + 18) ∧ u16 img (o + 18) ≤ 256 then u16 img (o + 18) else 32) ∧
      (x.enable = true ↔ u8 img o = 1) ∧ x.edge = (if u8 img (o + 2) = 1 then .falling else .rising) ∧
      x.trigger = (if u8 img (o + 3) = 1 then .foot else if u8 img (o + 3) = 2 then .either else .tip) ∧
      (x.buttonsOnSight = true ↔ u8 img (o + 11) = 1) ∧
      x.guardDir = (if u8 img (o + 13) = 1 then .upper else if u8 img (o + 13) = 2 then .lower
        else if u8 img (o + 13) = 3 then .all else .none) ∧
      (x.startLocked = true ↔ u8 img (o + 15) = 1) ∧
      x.contest = (if u8 img (o + 16) = 1 then .refuse else .pickOnly) := by
  have within : ∀ {a b v : Nat}, (decide (a ≤ v) && decide (v ≤ b)) = true ↔ a ≤ v ∧ v ≤ b := by simp
  have below : ∀ {b v : Nat}, decide (v ≤ b) = true ↔ 0 ≤ v ∧ v ≤ b := by simp
  refine ⟨judge_fst_of_iff _ _ below, judge_fst_of_iff _ _ decide_eq_true_iff, rfl, judge_fst_of_iff _ _ within,
    judge_fst_of_iff _ _ within, judge_fst_of_iff _ _ within, judge_fst_of_iff _ _ within, judge_fst_of_iff _ _ below,
    judge_fst_of_iff _ _ below, judge_fst_of_iff _ _ within, judge_fst_of_iff _ _ within, flag_judged _,
    edge_judged _, trigger_judged _, flag_judged _, guard_judged _, flag_judged _, contest_judged _⟩

/-- The configuration table (section 12.2). -/
theorem validate_config (img : List Byte) : ∃ cfg n, validate .config img = (.config cfg, n) ∧ n ≤ 255 ∧
    let field := fun i lo hi d : Nat => if lo ≤ u8 img i ∧ u8 img i ≤ hi then u8 img i else d
    let alone := fun (i : Nat) (d : Fin 8) => if h : u8 img i < 8 then some ⟨u8 img i, h⟩ else if u8 img i = 255 then none else some d
    let raw : List (Option (Fin 8)) := [alone 0x14 0, alone 0x15 2, alone 0x34 1, alone 0x35 3]
    (∀ c, let o := match c with | .a => 0x00 | .b => 0x20
      let x := cfg.chans.get c
      x.cableClass = field (o + 1) 0 3 0 ∧ x.delayOverride = (if u16 img (o + 4) ≤ 511 then u16 img (o + 4) else 0) ∧
        x.aperture = u8 img (o + 6) ∧ x.glareThreshold = field (o + 7) 4 250 60 ∧ x.m = field (o + 8) 1 15 6 ∧
        x.k = field (o + 9) 1 x.m (min 3 x.m) ∧ x.pressWindow = field (o + 10) 1 15 8 ∧ x.home = field (o + 12) 0 31 0 ∧
        x.guardExp = field (o + 14) 0 16 0 ∧ x.lossLimit = field (o + 17) 1 15 4 ∧
        x.armLength = (if 8 ≤ u16 img (o + 18) ∧ u16 img (o + 18) ≤ 256 then u16 img (o + 18) else 32) ∧
        (x.enable = true ↔ u8 img o = 1) ∧ x.edge = (if u8 img (o + 2) = 1 then .falling else .rising) ∧
        x.trigger = (if u8 img (o + 3) = 1 then .foot else if u8 img (o + 3) = 2 then .either else .tip) ∧
        (x.buttonsOnSight = true ↔ u8 img (o + 11) = 1) ∧
        x.guardDir = (if u8 img (o + 13) = 1 then .upper else if u8 img (o + 13) = 2 then .lower
          else if u8 img (o + 13) = 3 then .all else .none) ∧
        (x.startLocked = true ↔ u8 img (o + 15) = 1) ∧
        x.contest = (if u8 img (o + 16) = 1 then .refuse else .pickOnly)) ∧
    cfg.reportMask = img.getD 0x41 0 ∧
    cfg.strikeGate = ⟨(u8 img 0x45).testBit 0, (u8 img 0x45).testBit 1⟩ ∧
    cfg.penGate = ⟨(u8 img 0x45).testBit 2, (u8 img 0x45).testBit 3⟩ ∧
    cfg.consoleGate = ⟨(u8 img 0x45).testBit 4, (u8 img 0x45).testBit 5⟩ ∧
    cfg.debounce = field 0x40 0 31 5 ∧ cfg.period = field 0x42 2 255 20 ∧
    cfg.onCount = field 0x43 1 (cfg.period - 1) (min 10 (cfg.period - 1)) ∧ cfg.confirmTimeout = field 0x44 8 255 80 ∧
    cfg.idleSeconds = (if u16 img 0x46 ≤ 3600 then u16 img 0x46 else 600) ∧
    [cfg.chans.a.tip, cfg.chans.a.foot, cfg.chans.b.tip, cfg.chans.b.foot] =
      (List.range 4).map fun i => if raw.getD i none ∈ raw.take i then none else raw.getD i none := by
  have byte : ∀ i, u8 img i ≤ 255 := fun i => Nat.le_of_lt_succ (img.getD i 0).isLt
  have below : ∀ {b v : Nat}, decide (v ≤ b) = true ↔ 0 ≤ v ∧ v ≤ b := by simp
  have above : ∀ {a i : Nat}, decide (a ≤ u8 img i) = true ↔ a ≤ u8 img i ∧ u8 img i ≤ 255 := fun {a i} => by
    rw [decide_eq_true_iff]
    exact ⟨fun h => ⟨h, byte i⟩, And.left⟩
  have period : 2 ≤ (judge (decide (2 ≤ u8 img 0x42)) (u8 img 0x42) 20).1 := by
    rw [judge_fst]
    split
    next h => exact of_decide_eq_true h
    · decide
  have under : ∀ {i p : Nat}, 2 ≤ p → ((decide (1 ≤ u8 img i) && decide (u8 img i + 1 ≤ p)) = true ↔ 1 ≤ u8 img i ∧ u8 img i ≤ p - 1) :=
    fun {i p} two => by
      rw [Bool.and_eq_true, decide_eq_true_iff, decide_eq_true_iff]
      omega
  have repeats := checkRepeats_four (assignment (u8 img 0x14) (some 0)) (assignment (u8 img 0x15) (some 2))
    (assignment (u8 img 0x34) (some 1)) (assignment (u8 img 0x35) (some 3))
  simp only [assignment_fst] at repeats
  refine ⟨(parseConfig img).1, _, rfl, defaultedCount_le _, fun c => ?_, rfl, rfl, rfl, rfl, judge_fst_of_iff _ _ below,
    judge_fst_of_iff _ _ above, judge_fst_of_iff _ _ (under period), judge_fst_of_iff _ _ above,
    judge_fst_of_iff _ _ decide_eq_true_iff, repeats⟩
  cases c with
  | a => exact channelBlock_fields img 0x00
  | b => exact channelBlock_fields img 0x20

/-! ### The group and view tables -/

theorem sum_map_eq_length_filter {α : Type} (l : List α) (f : α → Nat) (p : α → Bool) (h : ∀ x, f x = if p x then 1 else 0) :
    (l.map f).sum = (l.filter p).length := by
  induction l with
  | nil => rfl
  | cons x l ih =>
    rw [List.map_cons, List.sum_cons, ih, h, List.filter_cons]
    split
    · rw [List.length_cons, Nat.add_comm]
    · exact Nat.zero_add _

theorem getElem?_map_range {α : Type} {f : Nat → α} {n i : Nat} {x : α} (h : ((List.range n).map f)[i]? = some x) : x = f i := by
  rw [List.getElem?_map] at h
  obtain ⟨j, at_, rfl⟩ := Option.map_eq_some_iff.mp h
  obtain ⟨inside, rfl⟩ := List.getElem?_eq_some_iff.mp at_
  rw [List.getElem_range]

theorem validate_group (img : List Byte) : ∃ groups n, validate .group img = (.group groups, n) ∧ groups.length = 61 ∧
    n = min 255 ((List.range 61).filter fun g => 7 < u8 img (4 * g + 2) ∧ u8 img (4 * g + 2) ≠ 255).length ∧
    ∀ (g : Nat) (e : GroupEntry), groups[g]? = some e → e.pickClass = u8 img (4 * g) % 8 ∧
      (e.draggable = true ↔ u8 img (4 * g + 1) % 2 = 1) ∧
      e.view = if u8 img (4 * g + 2) ≤ 7 then some (u8 img (4 * g + 2)) else none := by
  refine ⟨(parseGroups img).1, _, rfl, by simp [parseGroups], ?_, fun g e at_ => ?_⟩
  · rw [defaultedCount, Nat.min_comm, parseGroups]
    dsimp only
    rw [List.map_map, sum_map_eq_length_filter]
    intro g
    change (groupEntry img g).2 = _
    unfold groupEntry
    refine (judge_snd_of_iff (p := 7 < u8 img (4 * g + 2) ∧ u8 img (4 * g + 2) ≠ 255) _ _ ?_).trans
      (if_congr decide_eq_true_iff.symm rfl rfl)
    simp only [Bool.or_eq_true, decide_eq_true_iff, beq_iff_eq]
    omega
  · have is : e = (groupEntry img g).1 := by
      rw [parseGroups, List.map_map] at at_
      exact getElem?_map_range at_
    rw [is]
    refine ⟨rfl, bitAt_zero_iff img _, (judge_fst _ _ _).trans ?_⟩
    by_cases low : u8 img (4 * g + 2) ≤ 7
    · simp [low]
    · simp [low]

theorem length_filter_id (l : List Bool) : (l.filter id).length = (l.map Bool.toNat).sum := by
  induction l with
  | nil => rfl
  | cons b l ih =>
    cases b with
    | false => simpa using ih
    | true => simpa [Nat.add_comm] using ih

theorem validate_view (img : List Byte) : ∃ views n, validate .view img = (.view views, n) ∧ views.length = 8 ∧
    (let display := fun i => u16 img i ≤ 4095
      let within := fun (lim : Int) (i : Nat) => -lim ≤ i32 img i ∧ i32 img i ≤ lim
      n = min 255 ((List.range 8).map fun v => ([decide (¬display (32 * v)), decide (¬display (32 * v + 2)),
        decide (¬within 2000000 (32 * v + 4)), decide (¬within 2000000 (32 * v + 8)), decide (¬within 1000000 (32 * v + 12)),
        decide (¬within 1000000 (32 * v + 16))].filter id).length).sum ∧
      ∀ (v : Nat) (w : ViewEntry), views[v]? = some w →
        w.dx = (if display (32 * v) then u16 img (32 * v) else 0) ∧
        w.dy = (if display (32 * v + 2) then u16 img (32 * v + 2) else 0) ∧
        w.ox = (if within 2000000 (32 * v + 4) then i32 img (32 * v + 4) else 0) ∧
        w.oy = (if within 2000000 (32 * v + 8) then i32 img (32 * v + 8) else 0) ∧
        w.sx = (if within 1000000 (32 * v + 12) then i32 img (32 * v + 12) else 0) ∧
        w.sy = (if within 1000000 (32 * v + 16) then i32 img (32 * v + 16) else 0)) := by
  refine ⟨(parseViews img).1, _, rfl, by simp [parseViews], ?_, fun v w at_ => ?_⟩
  · rw [defaultedCount, Nat.min_comm, parseViews]
    dsimp only
    rw [List.map_map]
    refine congrArg (fun l : List Nat => min 255 l.sum) (List.map_congr_left fun v _ => ?_)
    rw [length_filter_id]
    simp only [Function.comp, viewEntry, judge_snd_toNat, List.map_cons, List.map_nil, List.sum_cons, List.sum_nil, Nat.add_zero,
      Nat.add_assoc]
  · have is : w = (viewEntry img v).1 := by
      rw [parseViews, List.map_map] at at_
      exact getElem?_map_range at_
    rw [is]
    exact ⟨judge_fst_of_iff _ _ decide_eq_true_iff, judge_fst_of_iff _ _ decide_eq_true_iff, judge_fst_of_iff _ _ decide_eq_true_iff,
      judge_fst_of_iff _ _ decide_eq_true_iff, judge_fst_of_iff _ _ decide_eq_true_iff, judge_fst_of_iff _ _ decide_eq_true_iff⟩

/-! ### The menu table -/

theorem kindOf_eq (n : Nat) :
    kindOf n = [none, some .command, some .openSheet, some .back, some .toggle, some .choice].getD n none := by
  by_cases small : n < 6
  · interval_cases n <;> rfl
  · rw [List.getD_eq_getElem?_getD, List.getElem?_eq_none (by simpa using small)]
    unfold kindOf
    simp only [show n ≠ 1 by omega, show n ≠ 2 by omega, show n ≠ 3 by omega, show n ≠ 4 by omega, show n ≠ 5 by omega, if_false]
    rfl

theorem length_markInert (sheets : Nat) (earlier : List Nat) (bs : List Button) : (markInert sheets earlier bs).length = bs.length := by
  induction bs generalizing earlier with
  | nil => rfl
  | cons b bs ih => rw [markInert, List.length_cons, ih, List.length_cons]

theorem map_tag_markInert (sheets : Nat) (earlier : List Nat) (bs : List Button) :
    (markInert sheets earlier bs).map Button.tag = bs.map Button.tag := by
  induction bs generalizing earlier with
  | nil => rfl
  | cons b bs ih => rw [markInert, List.map_cons, ih, List.map_cons]

/-- A marked button is the button of the copy, inert for one of the three reasons of R107. -/
theorem markInert_getElem? (sheets : Nat) (earlier : List Nat) (bs : List Button) (i : Nat) :
    (markInert sheets earlier bs)[i]? = (bs[i]?).map fun b => { b with
      inert := b.kind.isNone || (b.kind == some .openSheet && decide (sheets ≤ b.target)) ||
        decide (b.tag ∈ earlier ∨ b.tag ∈ (bs.map Button.tag).take i) } := by
  induction bs generalizing earlier i with
  | nil => rfl
  | cons b bs ih =>
    rw [markInert]
    cases i with
    | zero => simp
    | succ i =>
      rw [List.getElem?_cons_succ, ih, List.getElem?_cons_succ, List.map_cons, List.take_succ_cons]
      refine congrArg (Option.map · _) (funext fun x => ?_)
      have same : (x.tag ∈ b.tag :: earlier ∨ x.tag ∈ (bs.map Button.tag).take i) ↔
          (x.tag ∈ earlier ∨ x.tag ∈ b.tag :: (bs.map Button.tag).take i) := by
        rw [List.mem_cons, List.mem_cons, or_assoc, or_left_comm]
      simp only [same]

theorem initialChoice_eq_some_iff {bs : List Button} {v w : Nat} :
    (initialChoice bs v).1 = some w ↔ w = v ∧ w ≠ 255 ∧ ∃ b, bs[w]? = some b ∧ b.kind = some .choice ∧ b.inert = false := by
  unfold initialChoice
  split
  next none => exact ⟨nofun, fun ⟨is, no, _⟩ => absurd (is.trans none) no⟩
  next low =>
    split
    next absent => exact ⟨nofun, fun ⟨is, _, b, at_, _⟩ => nomatch (is ▸ at_).symm.trans absent⟩
    next b at_ =>
      split
      next fits => exact ⟨fun h => Option.some.inj h ▸ ⟨rfl, low, b, at_, fits⟩, fun ⟨is, _⟩ => congrArg some is.symm⟩
      next misfit =>
        refine ⟨nofun, fun ⟨is, _, x, there, fits⟩ => absurd ?_ misfit⟩
        obtain rfl : b = x := Option.some.inj (at_.symm.trans (is ▸ there))
        exact fits

theorem sheetCount_fst {n : Nat} (byte : n ≤ 255) : (sheetCount n).1 = max 1 (min 32 n) := by
  unfold sheetCount
  split
  next zero => rw [zero]; rfl
  · split
    · show 32 = _; omega
    · show n = _; omega

theorem mem_map_tag_take {sheets : Nat} {bs : List Button} {i tag : Nat} :
    tag ∈ (bs.map Button.tag).take i ↔ ∃ x ∈ (markInert sheets [] bs).take i, x.tag = tag := by
  rw [← map_tag_markInert sheets [] bs, ← List.map_take, List.mem_map]

theorem validate_menu (img : List Byte) : ∃ sheets n, validate .menu img = (.menu sheets, n) ∧ n ≤ 255 ∧
    sheets.length = max 1 (min 32 (u8 img 0)) ∧
    ∀ (j : Nat) (sh : Sheet), sheets[j]? = some sh →
      let o := 0x10 + 136 * j
      sh.modal = bitAt img (o + 1) 0 ∧ sh.buttons.length = min 16 (u8 img o) ∧
        (∀ v, sh.initialChoice = some v ↔ v = u8 img (o + 2) ∧ v ≠ 255 ∧
          ∃ b, sh.buttons[v]? = some b ∧ b.kind = some .choice ∧ b.inert = false) ∧
        ∀ (i : Nat) (b : Button), sh.buttons[i]? = some b →
          let w := o + 8 + 8 * i
          b.tag = u16 img w ∧ b.code = u8 img (w + 3) ∧ b.target = u8 img (w + 4) ∧ b.confirm = bitAt img (w + 5) 0 ∧
            b.initialOn = bitAt img (w + 5) 1 ∧
            b.kind = [none, some .command, some .openSheet, some .back, some .toggle, some .choice].getD (u8 img (w + 2)) none ∧
            (b.inert = true ↔ b.kind = none ∨ (b.kind = some .openSheet ∧ sheets.length ≤ b.target) ∨
              ∃ x ∈ sh.buttons.take i, x.tag = b.tag) := by
  have byte : u8 img 0 ≤ 255 := Nat.le_of_lt_succ (img.getD 0 0).isLt
  have length : (parseMenu img).1.length = (sheetCount (u8 img 0)).1 := by simp [parseMenu]
  refine ⟨(parseMenu img).1, _, rfl, defaultedCount_le _, length.trans (sheetCount_fst byte), fun j sh at_ => ?_⟩
  have is : sh = (sheetAt img (sheetCount (u8 img 0)).1 j).1 := by
    rw [parseMenu, List.map_map] at at_
    exact getElem?_map_range at_
  have count : (judge (decide (u8 img (0x10 + 136 * j) ≤ 16)) (u8 img (0x10 + 136 * j)) 16).1 = min 16 (u8 img (0x10 + 136 * j)) := by
    rw [judge_fst_of_iff _ _ decide_eq_true_iff]
    split <;> omega
  rw [length]
  subst is
  generalize (sheetCount (u8 img 0)).1 = n
  intro o
  refine ⟨rfl, ?_, fun v => initialChoice_eq_some_iff, fun i b there => ?_⟩
  · rw [sheetAt, length_markInert, List.length_map, List.length_range]
    exact count
  · intro w
    have button := there
    rw [sheetAt, markInert_getElem?] at button
    obtain ⟨x, from_, rfl⟩ := Option.map_eq_some_iff.mp button
    obtain rfl := getElem?_map_range from_
    refine ⟨rfl, rfl, rfl, rfl, rfl, kindOf_eq _, ?_⟩
    simp only [List.not_mem_nil, false_or, mem_map_tag_take (sheets := n), Bool.or_eq_true, Bool.and_eq_true, decide_eq_true_iff,
      Option.isNone_iff_eq_none, beq_iff_eq, or_assoc]
    exact Iff.rfl

/-- Settles O45: the look, the end of a read, and the validation of the four tables. -/
theorem readEndWaitsOrDiscards : Obligations.ReadEndWaitsOrDiscards := by
  unfold Obligations.ReadEndWaitsOrDiscards
  exact ⟨fun s t quiet => State.lookRunning_cases t quiet, fun s t r got on quiet reading => State.readEnd_eq on quiet reading,
    validate_config, validate_group, validate_view, validate_menu⟩

end Sys2Proof.Machine

/-! The frame-end work of one channel reaches that channel alone and turns on nothing of the other: so the work of the two channels
is the same in either order. -/

namespace Sys2Proof.Machine

/-! ### What one channel's work reaches -/

/-- What the strikes of the frame left in a channel. -/
def Channel.seen (x : Channel) : Nat × List Strike × List StrikeResult × Echo := (x.strikes, x.pendingStrikes, x.results, x.echo)

/-- What the work may reach beside its own channel: the claims, the blink generator and the expiry of its confirm countdown. -/
structure Reach where
  claims : Bool
  blink : Bool
  expiry : Bool

/-- From `s` to `t` only the channel `c` with its menu, its ask, its owed steps and its highlight entry, the Log Writer, and what
`q` names, have changed, and in the channel not what the strikes left. -/
structure Around (c : Chan) (q : Reach) (s t : State) : Prop where
  seen : (t.chan c).seen = (s.chan c).seen := by rfl
  chan : t.chan (otherChan c) = s.chan (otherChan c) := by rfl
  menu : t.menu (otherChan c) = s.menu (otherChan c) := by rfl
  owed : t.work.owed.get (otherChan c) = s.work.owed.get (otherChan c) := by rfl
  expiry : t.work.expiry.get (otherChan c) = s.work.expiry.get (otherChan c) := by rfl
  ask : t.claims.asks.get (otherChan c) = s.claims.asks.get (otherChan c) := by rfl
  entry : t.feedback.entry.get (otherChan c) = s.feedback.entry.get (otherChan c) := by rfl
  loader : t.loader = s.loader := by rfl
  locks : t.locks = s.locks := by rfl
  inputs : t.inputs = s.inputs := by rfl
  idle : t.idle = s.idle := by rfl
  requests : t.requests = s.requests := by rfl
  beam : t.beam = s.beam := by rfl
  atClose : t.claims.atClose = s.claims.atClose := by rfl
  active : t.work.active = s.work.active := by rfl
  period : t.work.period = s.work.period := by rfl
  busFault : t.busFault = s.busFault := by rfl
  device : t.regs.device = s.regs.device := by rfl
  wf : Memory.wf s.mem → Memory.wf t.mem := by exact id
  claims : q.claims = false → t.claims.entries = s.claims.entries := by exact fun _ => rfl
  blink : q.blink = false → t.feedback.blink = s.feedback.blink := by exact fun _ => rfl
  expires : q.expiry = false → t.work.expiry.get c = s.work.expiry.get c := by exact fun _ => rfl

/-- `s` and `t` agree on what the work of the channel `c` turns on, and no bus error waits in either. -/
structure Alike (c : Chan) (s t : State) : Prop where
  quiet : s.busQuiet
  quiet' : t.busQuiet
  live : s.regs.device ≠ .halted
  live' : t.regs.device ≠ .halted
  chan : t.chan c = s.chan c
  menu : t.menu c = s.menu c
  owed : t.work.owed.get c = s.work.owed.get c
  expiry : t.work.expiry.get c = s.work.expiry.get c
  ask : t.claims.asks.get c = s.claims.asks.get c
  entry : t.feedback.entry.get c = s.feedback.entry.get c
  loader : t.loader = s.loader
  locks : t.locks = s.locks
  inputs : t.inputs = s.inputs
  beam : t.beam = s.beam
  closeClaims : t.closeClaims = s.closeClaims
  atClose : t.claims.atClose = s.claims.atClose
  closed : s.claims.atClose.isSome

/-- Work on the channel `c` alone. -/
def Local (c : Chan) (q : Reach) (f : State → State) : Prop := ∀ s t, Alike c s t → Alike c (f s) (f t) ∧ Around c q s (f s)

/-- Nothing beside the channel. -/
abbrev Reach.none : Reach := ⟨false, false, false⟩

section
variable {c : Chan} {q : Reach} {s t u : State}

theorem Around.refl (c : Chan) (q : Reach) (s : State) : Around c q s s := {}

theorem Around.trans (h : Around c q s t) (k : Around c q t u) : Around c q s u where
  seen := k.seen.trans h.seen
  chan := k.chan.trans h.chan
  menu := k.menu.trans h.menu
  owed := k.owed.trans h.owed
  expiry := k.expiry.trans h.expiry
  ask := k.ask.trans h.ask
  entry := k.entry.trans h.entry
  loader := k.loader.trans h.loader
  locks := k.locks.trans h.locks
  inputs := k.inputs.trans h.inputs
  idle := k.idle.trans h.idle
  requests := k.requests.trans h.requests
  beam := k.beam.trans h.beam
  atClose := k.atClose.trans h.atClose
  active := k.active.trans h.active
  period := k.period.trans h.period
  busFault := k.busFault.trans h.busFault
  device := k.device.trans h.device
  wf := k.wf ∘ h.wf
  claims := fun no => (k.claims no).trans (h.claims no)
  blink := fun no => (k.blink no).trans (h.blink no)
  expires := fun no => (k.expires no).trans (h.expires no)

theorem Around.mono {r : Reach} (h : Around c q s t) (claims : r.claims = false → q.claims = false)
    (blink : r.blink = false → q.blink = false) (expiry : r.expiry = false → q.expiry = false) : Around c r s t :=
  { h with claims := fun no => h.claims (claims no), blink := fun no => h.blink (blink no), expires := fun no => h.expires (expiry no) }

theorem Around.of_logged (h : Logged s t) : Around c q s t := by
  obtain ⟨m, l, cause, lost, rfl, wf⟩ := h
  exact { wf := wf }

/-- The other channel's work starts from a state alike. -/
theorem Around.alike (h : Around c q s t) (quiet : s.busQuiet) (live : s.regs.device ≠ .halted) (closed : s.claims.atClose.isSome) :
    Alike (otherChan c) s t where
  quiet := quiet
  quiet' := h.busFault.trans quiet
  live := live
  live' := by rw [h.device]; exact live
  chan := h.chan
  menu := h.menu
  owed := h.owed
  expiry := h.expiry
  ask := h.ask
  entry := h.entry
  loader := h.loader
  locks := h.locks
  inputs := h.inputs
  beam := h.beam
  closeClaims := by
    obtain ⟨k, is⟩ := Option.isSome_iff_exists.mp closed
    rw [State.closeClaims, State.closeClaims, h.atClose, is]
    rfl
  atClose := h.atClose
  closed := closed

theorem Alike.refl (c : Chan) (quiet : s.busQuiet) (live : s.regs.device ≠ .halted) (closed : s.claims.atClose.isSome) : Alike c s s :=
  ⟨quiet, quiet, live, live, rfl, rfl, rfl, rfl, rfl, rfl, rfl, rfl, rfl, rfl, rfl, rfl, closed⟩

theorem Alike.logged {s' t' : State} (h : Alike c s t) (first : Logged s s') (second : Logged t t') :
    Alike c s' t' := by
  obtain ⟨m, l, cause, lost, rfl, -⟩ := first
  obtain ⟨m', l', cause', lost', rfl, -⟩ := second
  exact ⟨h.quiet, h.quiet', h.live, h.live', h.chan, h.menu, h.owed, h.expiry, h.ask, h.entry, h.loader, h.locks, h.inputs, h.beam,
    h.closeClaims, h.atClose, h.closed⟩

theorem Alike.trans {v : State} (h : Alike c s t) (k : Alike c t v) : Alike c s v :=
  ⟨h.quiet, k.quiet', h.live, k.live', k.chan.trans h.chan, k.menu.trans h.menu, k.owed.trans h.owed, k.expiry.trans h.expiry,
    k.ask.trans h.ask, k.entry.trans h.entry, k.loader.trans h.loader, k.locks.trans h.locks, k.inputs.trans h.inputs,
    k.beam.trans h.beam, k.closeClaims.trans h.closeClaims, k.atClose.trans h.atClose, h.closed⟩

theorem Alike.tables (h : Alike c s t) : t.tables = s.tables := by rw [State.tables, h.loader]; rfl

theorem Alike.config (h : Alike c s t) : t.config = s.config := by rw [State.config, h.loader]; rfl

theorem Alike.chanConfig (h : Alike c s t) : t.chanConfig c = s.chanConfig c := by rw [State.chanConfig, h.config]; rfl

theorem Alike.topSheet (h : Alike c s t) : t.topSheet c = s.topSheet c := by rw [State.topSheet, h.menu, h.tables]; rfl

theorem Alike.tipHeld (h : Alike c s t) : t.tipHeld c = s.tipHeld c := by
  unfold State.tipHeld State.held
  rw [h.chanConfig, h.inputs]

theorem Alike.permits (h : Alike c s t) (claims : List Claim) (g tag : Nat) : t.permits claims c g tag = s.permits claims c g tag := by
  unfold State.permits State.drawingRefused State.locked
  rw [h.chan, h.topSheet, h.tables, h.locks, h.chanConfig]

theorem Alike.eligible (h : Alike c s t) : t.eligible t.closeClaims c = s.eligible s.closeClaims c := by
  unfold State.eligible
  rw [h.chan, h.chanConfig, h.closeClaims]
  exact List.filter_congr fun q _ => by rw [h.permits]

theorem Alike.highlightEntry (h : Alike c s t) : t.highlightEntry t.closeClaims c = s.highlightEntry s.closeClaims c := by
  rw [State.highlightEntry, State.highlightEntry, h.chan, h.tables, h.eligible]

/-! ### Primitive work -/

theorem Local.refl (c : Chan) (q : Reach) : Local c q fun s => s := fun s _ h => ⟨h, .refl c q s⟩

theorem Local.mono {r : Reach} {f : State → State} (h : Local c q f) (claims : r.claims = false → q.claims = false)
    (blink : r.blink = false → q.blink = false) (expiry : r.expiry = false → q.expiry = false) : Local c r f :=
  fun s t alike => ⟨(h s t alike).1, (h s t alike).2.mono claims blink expiry⟩

theorem Local.andThen {f g : State → State} (h : Local c q f) (k : Local c q g) : Local c q fun s => (f s).andThen g := fun s t alike => by
  obtain ⟨next, around⟩ := h s t alike
  dsimp only
  rw [State.andThen_live _ next.live, State.andThen_live _ next.live']
  obtain ⟨last, after⟩ := k _ _ next
  exact ⟨last, around.trans after⟩

theorem Local.comp {f g : State → State} (h : Local c q f) (k : Local c q g) : Local c q fun s => g (f s) := fun s t alike => by
  obtain ⟨next, around⟩ := h s t alike
  obtain ⟨last, after⟩ := k _ _ next
  exact ⟨last, around.trans after⟩

/-- Work that turns on data of the state, in which states that are alike agree. -/
theorem Local.of {D : Type} (data : State → D) (F : D → State → State) (same : ∀ s t, Alike c s t → data t = data s)
    (h : ∀ d, Local c q (F d)) : Local c q fun s => F (data s) s := fun s t alike => by
  dsimp only
  rw [same s t alike]
  exact h (data s) s t alike

theorem Local.record (n : State → Notes) (b : State → Body) : Local c q fun s => s.record c (n s) (b s) := fun s t alike => by
  have first := State.record_logged alike.quiet c (n s) (b s)
  exact ⟨alike.logged first (State.record_logged alike.quiet' c (n t) (b t)), .of_logged first⟩

theorem Local.onChan (f : Channel → Channel) (seen : ∀ x, (f x).seen = x.seen := by exact fun _ => rfl) :
    Local c q fun s => s.onChan c f := fun s t alike => by
  have chan : (t.onChan c f).chan c = (s.onChan c f).chan c := by rw [State.chan_onChan, State.chan_onChan, alike.chan]
  exact ⟨{ alike with chan := chan }, {
    seen := by rw [State.chan_onChan]; exact seen _
    chan := State.chan_onChan_other s c f }⟩

theorem Local.onMenu (f : Menu → Menu) : Local c q fun s => s.onMenu c f := fun s t alike => by
  have menu : (t.onMenu c f).menu c = (s.onMenu c f).menu c := by rw [State.menu_onMenu, State.menu_onMenu, alike.menu]
  exact ⟨{ alike with menu := menu }, { menu := State.menu_onMenu_ne s f (otherChan_ne c) }⟩

theorem Local.owe (o : Option Owed) : Local c q fun s => s.owe c o := fun s t alike => by
  refine ⟨{ alike with owed := ?_ }, { owed := Pair.get_set_ne _ _ (otherChan_ne c) }⟩
  exact (Pair.get_set_same _ _ _).trans (Pair.get_set_same _ _ _).symm

theorem Local.setAsk (a : Option Ask) : Local c q fun s => s.setAsk c a := fun s t alike => by
  refine ⟨{ alike with ask := ?_ }, { ask := Pair.get_set_ne _ _ (otherChan_ne c) }⟩
  exact (Pair.get_set_same _ _ _).trans (Pair.get_set_same _ _ _).symm

theorem Local.onClaims (f : List Claim → List Claim) : Local c ⟨true, false, false⟩ fun s => s.onClaims f := fun s t alike => by
  refine ⟨{ alike with closeClaims := ?_ }, { claims := nofun }⟩
  obtain ⟨k, is⟩ := Option.isSome_iff_exists.mp alike.closed
  have closed : ∀ v : State, v.claims.atClose = some k → v.closeClaims = k := fun v at_ => by rw [State.closeClaims, at_]; rfl
  exact (closed (t.onClaims f) (alike.atClose.trans is)).trans (closed (s.onClaims f) is).symm

theorem State.syncBlink_eq (s : State) : s.syncBlink = { s with feedback := s.syncBlink.feedback } := by
  unfold State.syncBlink
  split
  · rfl
  · rfl
  · rfl
  · rfl

theorem State.entry_syncBlink (s : State) : s.syncBlink.feedback.entry = s.feedback.entry := by
  unfold State.syncBlink
  split
  · rfl
  · exact (Feedback.adopt_eq _).2.2.2
  · rfl
  · rfl

theorem Local.syncBlink : Local c ⟨false, true, false⟩ State.syncBlink := fun s t alike => by
  have entry : t.syncBlink.feedback.entry.get c = s.syncBlink.feedback.entry.get c := by
    rw [State.entry_syncBlink, State.entry_syncBlink, alike.entry]
  have other : s.syncBlink.feedback.entry.get (otherChan c) = s.feedback.entry.get (otherChan c) := by rw [State.entry_syncBlink]
  rw [State.syncBlink_eq s, State.syncBlink_eq t]
  exact ⟨{ alike with entry := entry }, { entry := other, blink := nofun }⟩

theorem Local.expire : Local c ⟨false, false, true⟩ fun s => { s with work := { s.work with expiry := s.work.expiry.set c true } } :=
  fun s t alike => by
    refine ⟨{ alike with expiry := ?_ }, { expiry := Pair.get_set_ne _ _ (otherChan_ne c), expires := nofun }⟩
    exact (Pair.get_set_same _ _ _).trans (Pair.get_set_same _ _ _).symm

theorem Local.choose : Local c q fun s => s.choose s.closeClaims c := fun s t alike => by
  refine ⟨{ alike with entry := ?_ }, { entry := Pair.get_set_ne _ _ (otherChan_ne c) }⟩
  rw [State.entry_choose, State.entry_choose, alike.highlightEntry]

end

end Sys2Proof.Machine

/-! The frame-end work of a channel, operation by operation, as work on that channel alone. -/

namespace Sys2Proof.Machine

section
variable {c : Chan} {q : Reach}

/-- An operation that reaches the blink generator beside its channel. -/
abbrev Reach.blinks : Reach := ⟨false, true, false⟩

/-- A choice that turns on data in which states that are alike agree. -/
theorem Local.ite {p : State → Prop} [∀ s, Decidable (p s)] {f g : State → State} (same : ∀ s t, Alike c s t → (p t ↔ p s))
    (h : Local c q f) (k : Local c q g) : Local c q fun s => if p s then f s else g s := fun s t alike => by
  by_cases holds : p s
  · simp only [if_pos holds, if_pos ((same s t alike).mpr holds)]
    exact h s t alike
  · simp only [if_neg holds, if_neg fun x => holds ((same s t alike).mp x)]
    exact k s t alike

/-! ### The Menu Engine -/

theorem Local.clearArmed : Local c .blinks fun s => s.clearArmed c :=
  .of (fun s => (s.menu c).armed)
    (fun armed s => match armed with
      | none => s
      | some _ => (s.onMenu c fun m => { m with armed := none, countdown := 0 }).syncBlink)
    (fun _ _ h => by rw [h.menu])
    fun armed => by
      cases armed with
      | none => exact .refl c _
      | some k => exact (Local.onMenu _).comp .syncBlink

theorem Local.reportDisarm (cause : DisarmCause) : Local c q fun s => s.reportDisarm c cause :=
  .of (fun s => (s.menu c).armed)
    (fun armed s => match armed with
      | none => s
      | some (sheet, i) => s.record c {} (s.menuBody c .disarmed sheet i none (some cause)))
    (fun _ _ h => by rw [h.menu])
    fun armed => by
      cases armed with
      | none => exact .refl c _
      | some k => exact .record (fun _ => {}) fun s => s.menuBody c .disarmed k.1 k.2 none (some cause)

theorem Local.disarm (cause : DisarmCause) : Local c .blinks fun s => s.disarm c cause :=
  (Local.reportDisarm cause).andThen .clearArmed

theorem Local.perform (sheet i : Nat) (b : Button) (trig : Trigger) (echo : Bool) :
    Local c q fun s => s.perform c sheet i b trig echo :=
  .of (fun s => performKind (s.menu c) sheet i b)
    (fun r s => (s.onMenu c fun _ => r.2).record c { echo := echo } ((s.onMenu c fun _ => r.2).menuBody c r.1 sheet i (some trig) none))
    (fun _ _ h => by rw [h.menu])
    fun r => (Local.onMenu fun _ => r.2).comp (.record (fun _ => { echo := echo }) fun s => s.menuBody c r.1 sheet i (some trig) none)

theorem Local.arm (sheet i : Nat) (trig : Trigger) (echo : Bool) : Local c .blinks fun s => s.arm c sheet i trig echo :=
  .of (fun s => s.config.confirmTimeout)
    (fun n s => (s.onMenu c fun m => { m with armed := some (sheet, i), countdown := n }).syncBlink.record c { echo := echo }
      ((s.onMenu c fun m => { m with armed := some (sheet, i), countdown := n }).syncBlink.menuBody c .armed sheet i (some trig) none))
    (fun _ _ h => by rw [h.config])
    fun _ => ((Local.onMenu _).comp .syncBlink).comp (.record (fun _ => { echo := echo }) fun s => s.menuBody c .armed sheet i (some trig) none)

theorem Local.takeButton (sheet i : Nat) (b : Button) (trig : Trigger) (echo : Bool) :
    Local c .blinks fun s => s.takeButton c sheet i b trig echo := by
  unfold State.takeButton
  refine .ite (fun _ _ h => by rw [h.menu]) (Local.clearArmed.comp (.perform sheet i b trig echo)) ?_
  cases b.confirm with
  | true => exact .arm sheet i trig echo
  | false => exact .perform sheet i b trig echo

theorem Local.buttonPick (tag : Nat) (trig : Trigger) (echo : Bool) : Local c .blinks fun s => s.buttonPick c tag trig echo :=
  .of (fun s => (s.topSheet c, (s.menu c).top))
    (fun d s => match d.1.live tag with
      | none => s
      | some i => (if (s.menu c).armed = some (d.2, i) then s else s.disarm c .pick).andThen fun t =>
        t.takeButton c d.2 i (d.1.buttons.getD i ⟨0, none, 0, 0, false, false, true⟩) trig echo)
    (fun _ _ h => by rw [h.topSheet, h.menu])
    fun d => by
      cases d.1.live tag with
      | none => exact .refl c _
      | some i =>
        exact (Local.ite (fun _ _ h => by rw [h.menu]) (.refl c _) (.disarm .pick)).andThen (.takeButton d.2 i _ trig echo)

/-! ### Picks -/

theorem Local.pickButton (k : Pick) : Local c .blinks fun s => s.pickButton c k :=
  (Local.buttonPick k.tag k.trigger k.echo).andThen (.onChan fun x => { x with table := fireEntry x.table k.group k.tag })

theorem Local.updateQual : Local c q fun s => s.updateQual c :=
  .of (fun s => s.chanConfig c) (fun cc s => s.onChan c fun x => { x with table := updateTable cc.m cc.k (sightingSet x.results) x.table })
    (fun _ _ h => h.chanConfig) fun _ => .onChan _

theorem Local.sightPick : Local c .blinks fun s => s.sightPick c :=
  .of (fun s => ((s.chanConfig c).buttonsOnSight,
      bestQual s.tables ((s.eligible s.closeClaims c).filter fun q => q.group == menuGroup c && !q.fired)))
    (fun d s => if d.1 then match d.2 with | none => s | some q => s.pickButton c (q.toPick .sight) else s)
    (fun _ _ h => by rw [h.chanConfig, h.tables, h.eligible])
    fun d => by
      cases d.1 with
      | false => exact .refl c _
      | true =>
        cases d.2 with
        | none => exact .refl c _
        | some q => exact .pickButton _

theorem Local.endCollection (o : SeqOutcome) : Local c q fun s => s.endCollection c o :=
  .of (fun s => (s.chan c).collection)
    (fun k s => match k with
      | none => s
      | some k => (s.record c {} (.sequenceEnd o k.requested k.tags)).andThen fun t => t.onChan c fun x => { x with collection := none })
    (fun _ _ h => by rw [h.chan])
    fun k => by
      cases k with
      | none => exact .refl c _
      | some k => exact (Local.record (fun _ => {}) fun _ => .sequenceEnd o k.requested k.tags).andThen (.onChan _)

theorem Local.recordPick (k : Pick) (n : Notes) (tracking : Bool) : Local c q fun s => s.recordPick c k n tracking :=
  .of (fun s => collectTag (s.chan c).collection k.tag)
    (fun r s => ((s.onChan c fun x => { x with collection := r.2.2 }).record c { n with echo := k.echo, again := r.2.1 }
        (.pick k (loftPoint (s.onChan c fun x => { x with collection := r.2.2 }).tables k.group k.point) r.1 tracking)).andThen fun u =>
      if (r.2.2.map Collection.remaining) = some 0 then u.endCollection c .complete else u)
    (fun _ _ h => by rw [h.chan])
    fun r => by
      have placed := (Local.onChan (c := c) (q := q) fun x => { x with collection := r.2.2 }).comp
        (.record (fun _ => { n with echo := k.echo, again := r.2.1 }) fun s => .pick k (loftPoint s.tables k.group k.point) r.1 tracking)
      by_cases last : r.2.2.map Collection.remaining = some 0
      · simp only [if_pos last]
        exact placed.andThen (.endCollection .complete)
      · simp only [if_neg last]
        exact placed.andThen (.refl c q)

/-- The channel leaves PRESSED for WATCH. -/
theorem Local.leavePressed : Local c q fun s => s.onChan c fun x => x.leavePressed.goto .watch := .onChan _

theorem Local.askOrRecord (k : Pick) : Local c q fun s => s.askOrRecord c k :=
  .of (fun s => ((s.chan c).press, s.tables.draggable k.group && s.tipHeld c))
    (fun d s => match d.1 with
      | some pr => if d.2 then s.setAsk c (some ⟨k, pr⟩)
        else (s.recordPick c k {} false).andThen fun u => u.onChan c fun x => x.leavePressed.goto .watch
      | none => (s.recordPick c k {} false).andThen fun u => u.onChan c fun x => x.leavePressed.goto .watch)
    (fun _ _ h => by rw [h.chan, h.tables, h.tipHeld])
    fun d => by
      have recorded := (Local.recordPick (c := c) (q := q) k {} false).andThen .leavePressed
      cases d.1 with
      | none => exact recorded
      | some pr =>
        cases d.2 with
        | true => exact .setAsk _
        | false => exact recorded

theorem Local.pickElement (k : Pick) : Local c .blinks fun s => s.pickElement c k := (Local.disarm .pick).andThen (.askOrRecord k)

end

end Sys2Proof.Machine

/-! The frame-end work of a channel by its state, and the close of a frame. -/

namespace Sys2Proof.Machine

section
variable {c : Chan} {q : Reach}

/-! ### The work by state -/

theorem Local.windowFalls : Local c q fun s => s.windowFalls c :=
  (Local.onChan fun x => { x with windowCount := x.windowCount - 1 }).comp
    (.ite (p := fun t => (t.chan c).windowCount = 0) (fun _ _ h => by rw [h.chan]) (.owe (some .miss)) (.refl c q))

/-- The pick of the best eligible entry of a channel in PRESSED, or the fall of its window count. -/
def State.pressedPick (t : State) (c : Chan) : State :=
  match bestQual t.tables (t.eligible t.closeClaims c) with
  | none => t.windowFalls c
  | some q =>
    let k := q.toPick (((t.chan c).press.map fun p => p.role.trigger).getD .tip)
    if k.group = 61 ∨ k.group = 62 then
      (t.pickButton c k).andThen fun u => u.onChan c fun x => x.leavePressed.goto .watch
    else t.pickElement c k

theorem Local.pressedPick : Local c .blinks fun s => s.pressedPick c :=
  .of (fun t => (bestQual t.tables (t.eligible t.closeClaims c), ((t.chan c).press.map fun p => p.role.trigger).getD .tip))
    (fun d t => match d.1 with
      | none => t.windowFalls c
      | some q =>
        let k := q.toPick d.2
        if k.group = 61 ∨ k.group = 62 then
          (t.pickButton c k).andThen fun u => u.onChan c fun x => x.leavePressed.goto .watch
        else t.pickElement c k)
    (fun _ _ h => by rw [h.tables, h.eligible, h.chan])
    fun d => by
      cases d.1 with
      | none => exact .windowFalls
      | some q =>
        exact .ite (p := fun _ => (q.toPick d.2).group = 61 ∨ (q.toPick d.2).group = 62) (fun _ _ _ => Iff.rfl)
          ((Local.pickButton _).andThen .leavePressed) (.pickElement _)

theorem Local.pressedFrame : Local c .blinks fun s => s.pressedFrame c :=
  ((Local.onChan Channel.countWindow).comp .updateQual).comp .pressedPick

theorem Local.endCalibration (o : CalOutcome) (m : Mode) : Local c q fun s => s.endCalibration c o m :=
  .of (fun s => s.chan c)
    (fun x s => (s.record c { echo := x.measures.any Measure.echo }
        (.calibration o (x.dotTag.getD 0) x.measures.length (leastTicks x.measures) (mostTicks x.measures) (middleTicks x.measures)
          x.delay (Config.calibrationFrames - x.budget))).andThen fun t =>
      t.onChan c fun y => { y.leaveCalibrating.goto m with lastCal := some (o, (middleTicks x.measures).getD 0) })
    (fun _ _ h => h.chan)
    fun x => (Local.record (fun _ => _) fun _ => _).andThen
      (.onChan fun y => { y.leaveCalibrating.goto m with lastCal := some (o, (middleTicks x.measures).getD 0) })

theorem Local.finishCalibration : Local c q fun s => s.finishCalibration c :=
  .of (fun s => (s.chan c).measures)
    (fun ms s => if steady ms then (s.onChan c fun x => { x with delay := (middleTicks ms).getD x.delay }).endCalibration c .set .watch
      else s.endCalibration c .unsteady .watch)
    (fun _ _ h => by rw [h.chan])
    fun ms => .ite (p := fun _ => steady ms = true) (fun _ _ _ => Iff.rfl)
      ((Local.onChan fun x => { x with delay := (middleTicks ms).getD x.delay }).comp (.endCalibration .set .watch))
      (.endCalibration .unsteady .watch)

theorem Local.calibrationFrame : Local c q fun s => s.calibrationFrame c :=
  (Local.onChan fun x => { x with budget := x.budget - 1 }).comp
    (.ite (p := fun t => Config.measuresMax ≤ (t.chan c).measures.length) (fun _ _ h => by rw [h.chan]) .finishCalibration
      (.ite (p := fun t => (t.chan c).budget = 0) (fun _ _ h => by rw [h.chan]) (.owe (some .tooFew)) (.refl c q)))

theorem Local.moveCentre : Local c q fun s => s.moveCentre c :=
  .of (fun s => s.chan c)
    (fun x s => if (crossUpdate c x.centre x.results).1 = x.centre then s
      else (s.onChan c fun y => { y with
          centre := (crossUpdate c x.centre x.results).1
          echoInCentre := (crossUpdate c x.centre x.results).2.2.2 }).record c
        { edge := (crossUpdate c x.centre x.results).2.1, echo := (crossUpdate c x.centre x.results).2.2.2 }
        (.track (x.tracked.getD (0, 0)).1 (x.tracked.getD (0, 0)).2 (crossUpdate c x.centre x.results).1
          (loftPoint s.tables (x.tracked.getD (0, 0)).1 (crossUpdate c x.centre x.results).1)
          (crossUpdate c x.centre x.results).2.2.1))
    (fun _ _ h => h.chan)
    fun x => .ite (p := fun _ => (crossUpdate c x.centre x.results).1 = x.centre) (fun _ _ _ => Iff.rfl) (.refl c q)
      ((Local.onChan fun y => { y with
          centre := (crossUpdate c x.centre x.results).1
          echoInCentre := (crossUpdate c x.centre x.results).2.2.2 }).comp
        (.record (fun _ => _) fun s => .track (x.tracked.getD (0, 0)).1 (x.tracked.getD (0, 0)).2
          (crossUpdate c x.centre x.results).1
          (loftPoint s.tables (x.tracked.getD (0, 0)).1 (crossUpdate c x.centre x.results).1)
          (crossUpdate c x.centre x.results).2.2.1))

/-- An operation that reaches the claims beside its channel. -/
abbrev Reach.claiming : Reach := ⟨true, false, false⟩

theorem Local.endTracking (e : EndReason) : Local c .claiming fun s => s.endTracking c e :=
  ((Local.record (fun s => { echo := e == .lost && (s.chan c).echoInCentre }) fun s =>
      .trackEnd ((s.chan c).tracked.getD (0, 0)).1 ((s.chan c).tracked.getD (0, 0)).2 (s.chan c).centre
        (loftPoint s.tables ((s.chan c).tracked.getD (0, 0)).1 (s.chan c).centre) e (s.chan c).duration).andThen
    (.onClaims fun k => withoutPen k c)).andThen (.onChan fun x => x.leaveTracking.goto .watch)

theorem Local.endTrackFrame : Local c .claiming fun s => s.endTrackFrame c :=
  .ite (p := fun v => (!v.tipHeld c) = true) (fun _ _ h => by rw [h.tipHeld]) (.endTracking .dropped)
    (.ite (p := fun v => (v.chanConfig c).lossLimit ≤ (v.chan c).loss) (fun _ _ h => by rw [h.chanConfig, h.chan]) (.owe (some .lost))
      (.refl c _))

theorem Local.trackFrame : Local c .claiming fun s => s.trackFrame c :=
  .of (fun s => (crossUpdate c (s.chan c).centre (s.chan c).results).2.2.1)
    (fun arms s => ((s.onChan c fun x => { x with duration := min (x.duration + 1) 65535 }).moveCentre c).andThen fun u =>
      (u.onChan c fun x => { x with loss := if 0 < arms then 0 else x.loss + 1 }).endTrackFrame c)
    (fun _ _ h => by rw [h.chan])
    fun arms => ((Local.onChan fun x => { x with duration := min (x.duration + 1) 65535 }).comp .moveCentre).andThen
      ((Local.onChan fun x => { x with loss := if 0 < arms then 0 else x.loss + 1 }).comp .endTrackFrame)

theorem Local.glareFrame : Local c q fun s => s.glareFrame c :=
  (Local.onChan fun x => { x with
      glareFrames := min (x.glareFrames + 1) Config.countMax
      reminderPhase := (x.reminderPhase + 1) % Config.reminderFrames }).comp
    (.ite (p := fun t => (t.chan c).reminderPhase = 0) (fun _ _ h => by rw [h.chan]) (.owe (some .reminder)) (.refl c q))

/-- What the work in a state may reach beside its channel. -/
def Mode.reach : Mode → Reach
  | .watch => .blinks
  | .pressed => .blinks
  | .tracking => .claiming
  | .off => .none
  | .calibrating => .none
  | .suspended => .none
  | .glare => .none

/-- The frame-end work of a channel in a given state. -/
def State.workIn (m : Mode) (c : Chan) (s : State) : State :=
  match m with
  | .off => s
  | .watch => (s.updateQual c).sightPick c
  | .pressed => s.pressedFrame c
  | .calibrating => s.calibrationFrame c
  | .tracking => s.trackFrame c
  | .suspended => s.onChan c fun x => { x with duration := min (x.duration + 1) Config.countMax }
  | .glare => s.glareFrame c

theorem State.modeFrame_eq (s : State) (c : Chan) : s.modeFrame c = s.workIn (s.chan c).mode c := rfl

theorem Local.workIn (m : Mode) : Local c m.reach (State.workIn m c) := by
  cases m with
  | off => exact .refl c _
  | watch => exact (Local.updateQual).comp .sightPick
  | pressed => exact .pressedFrame
  | calibrating => exact .calibrationFrame
  | tracking => exact .trackFrame
  | suspended => exact .onChan fun x => { x with duration := min (x.duration + 1) Config.countMax }
  | glare => exact .glareFrame

/-- All that a frame end may reach. -/
abbrev Reach.all : Reach := ⟨true, true, true⟩

theorem Local.all {f : State → State} (h : Local c q f) : Local c .all f := h.mono nofun nofun nofun

theorem Local.lowerCountdown (before : Option (Nat × Nat)) : Local c ⟨false, false, true⟩ fun s => s.lowerCountdown c before :=
  .of (fun s => s.menu c)
    (fun m s => if m.armed.isSome && m.armed == before then
        if m.countdown - 1 = 0 then
          { s.onMenu c fun x => { x with countdown := m.countdown - 1 } with
            work := { s.work with expiry := s.work.expiry.set c true } }
        else s.onMenu c fun x => { x with countdown := m.countdown - 1 }
      else s)
    (fun _ _ h => h.menu)
    fun m => .ite (p := fun _ => (m.armed.isSome && m.armed == before) = true) (fun _ _ _ => Iff.rfl)
      (.ite (p := fun _ => m.countdown - 1 = 0) (fun _ _ _ => Iff.rfl)
        ((Local.onMenu fun x => { x with countdown := m.countdown - 1 }).comp .expire)
        (.onMenu fun x => { x with countdown := m.countdown - 1 }))
      (.refl c _)

theorem Local.chanFrame : Local c .all (State.chanFrame c) :=
  .of (fun s => ((s.chan c).mode, (s.menu c).armed))
    (fun d s => ((s.workIn d.1 c).andThen fun t => t.lowerCountdown c d.2).andThen fun t => t.choose t.closeClaims c)
    (fun _ _ h => by rw [h.chan, h.menu])
    fun d => ((Local.workIn d.1).all.andThen (Local.lowerCountdown d.2).all).andThen .choose

end

end Sys2Proof.Machine

/-! The close of a frame: what the work of both channels leaves. -/

namespace Sys2Proof.Machine

/-! ### The blink generator and the armed button -/

/-- The blink generator changes only with the armed button of the channel. -/
def BlinkLaw (c : Chan) (s t : State) : Prop := (t.menu c).armed = (s.menu c).armed → t.feedback.blink = s.feedback.blink

section
variable {s : State} {c : Chan} (quiet : s.busQuiet) (live : s.regs.device ≠ .halted) (closed : s.claims.atClose.isSome)
include quiet live closed

theorem Local.around {q : Reach} {f : State → State} (h : Local c q f) : Around c q s (f s) := (h s s (.refl c quiet live closed)).2

end

theorem Around.blinkLaw {q : Reach} {s t : State} {c : Chan} (h : Around c q s t) (no : q.blink = false) : BlinkLaw c s t :=
  fun _ => h.blink no

theorem Logged.menu {s t : State} (h : Logged s t) (c : Chan) : t.menu c = s.menu c := by
  obtain ⟨m, l, cause, lost, rfl, -⟩ := h
  rfl

theorem armed_performKind (m : Menu) (sheet i : Nat) (b : Button) : (performKind m sheet i b).2.armed = m.armed := by
  unfold performKind
  split
  · split <;> rfl
  · split <;> rfl
  · rfl
  · rfl
  · rfl
  · rfl

theorem State.armed_perform {s : State} (quiet : s.busQuiet) (c : Chan) (sheet i : Nat) (b : Button) (trig : Trigger) (echo : Bool) :
    ((s.perform c sheet i b trig echo).menu c).armed = (s.menu c).armed := by
  have placed := (State.record_logged (s := s.onMenu c fun _ => (performKind (s.menu c) sheet i b).2) quiet c { echo := echo }
    ((s.onMenu c fun _ => (performKind (s.menu c) sheet i b).2).menuBody c (performKind (s.menu c) sheet i b).1 sheet i (some trig)
      none)).menu c
  refine (congrArg Menu.armed placed).trans ?_
  rw [State.menu_onMenu, armed_performKind]

theorem State.armed_arm {s : State} (quiet : s.busQuiet) (c : Chan) (sheet i : Nat) (trig : Trigger) (echo : Bool) :
    ((s.arm c sheet i trig echo).menu c).armed = some (sheet, i) := by
  let t := (s.onMenu c fun m => { m with armed := some (sheet, i), countdown := s.config.confirmTimeout }).syncBlink
  have calm : t.busQuiet := by
    rw [show t = _ from State.syncBlink_eq _]
    exact quiet
  have placed := (State.record_logged calm c { echo := echo } (t.menuBody c .armed sheet i (some trig) none)).menu c
  refine (congrArg Menu.armed placed).trans ?_
  rw [State.menu, State.syncBlink_menus]
  exact congrArg Menu.armed (s.menu_onMenu c fun m => { m with armed := some (sheet, i), countdown := s.config.confirmTimeout })

section
variable {s : State} {c : Chan} (quiet : s.busQuiet) (live : s.regs.device ≠ .halted) (closed : s.claims.atClose.isSome)
include quiet live closed

/-- Taking a button changes the armed button, or leaves it and the generator. -/
theorem State.takeButton_armed (sheet i : Nat) (b : Button) (trig : Trigger) (echo : Bool) :
    let t := s.takeButton c sheet i b trig echo
    ((s.menu c).armed = some (sheet, i) ∧ (t.menu c).armed = none) ∨
      ((s.menu c).armed ≠ some (sheet, i) ∧ (t.menu c).armed = some (sheet, i)) ∨
      ((t.menu c).armed = (s.menu c).armed ∧ t.feedback.blink = s.feedback.blink) := by
  unfold State.takeButton
  split
  next same =>
    refine .inl ⟨same, (State.armed_perform ?_ c sheet i b trig echo).trans (s.armed_clearArmed c)⟩
    obtain ⟨ms, f, is⟩ := s.clearArmed_eq c
    rw [is]
    exact quiet
  next other =>
    split
    · exact .inr (.inl ⟨other, State.armed_arm quiet c sheet i trig echo⟩)
    · exact .inr (.inr ⟨State.armed_perform quiet c sheet i b trig echo,
        ((Local.perform sheet i b trig echo).around (q := .none) quiet live closed).blink rfl⟩)

theorem State.buttonPick_blink (tag : Nat) (trig : Trigger) (echo : Bool) : BlinkLaw c s (s.buttonPick c tag trig echo) := by
  cases found : (s.topSheet c).live tag with
  | none =>
    have stays : s.buttonPick c tag trig echo = s := by
      unfold State.buttonPick
      dsimp only
      rw [found]
    rw [stays]
    exact fun _ => rfl
  | some i =>
    let b := (s.topSheet c).buttons.getD i ⟨0, none, 0, 0, false, false, true⟩
    by_cases alone : (s.menu c).armed = none ∨ (s.menu c).armed = some ((s.menu c).top, i)
    · rw [State.buttonPick_alone found rfl trig echo live alone]
      intro same
      rcases State.takeButton_armed quiet live closed (s.menu c).top i b trig echo with ⟨before, after⟩ | ⟨before, after⟩ | ⟨-, kept⟩
      · exact absurd (after.symm.trans (same.trans before)) nofun
      · exact absurd (same.symm.trans after) before
      · exact kept
    · obtain ⟨unlike, other⟩ := not_or.mp alone
      rw [State.buttonPick_live found rfl, if_neg other]
      intro same
      have first := (Local.disarm (c := c) .pick).around quiet live closed
      have live' : (s.disarm c .pick).regs.device ≠ .halted := by rw [first.device]; exact live
      have unarmed : ((s.disarm c .pick).menu c).armed = none := State.armed_disarm live'
      rw [State.andThen_live _ live'] at same
      have closed' : (s.disarm c .pick).claims.atClose.isSome := by rw [first.atClose]; exact closed
      rcases State.takeButton_armed (c := c) (first.busFault.trans quiet) live' closed' (s.menu c).top i b trig echo with
        ⟨before, -⟩ | ⟨-, after⟩ | ⟨after, -⟩
      · exact absurd (unarmed.symm.trans before) nofun
      · exact absurd (same.symm.trans after) other
      · exact absurd (same.symm.trans (after.trans unarmed)) unlike

theorem State.pickButton_blink (k : Pick) : BlinkLaw c s (s.pickButton c k) := by
  have first := (Local.buttonPick (c := c) k.tag k.trigger k.echo).around quiet live closed
  rw [State.pickButton, State.andThen_live _ (by rw [first.device]; exact live)]
  exact State.buttonPick_blink quiet live closed k.tag k.trigger k.echo

theorem State.pickElement_blink (k : Pick) : BlinkLaw c s (s.pickElement c k) := by
  have first := (Local.disarm (c := c) .pick).around quiet live closed
  have live' : (s.disarm c .pick).regs.device ≠ .halted := by rw [first.device]; exact live
  have closed' : (s.disarm c .pick).claims.atClose.isSome := by rw [first.atClose]; exact closed
  have kept : ∀ u : State, u.busQuiet → u.regs.device ≠ .halted → ((u.askOrRecord c k).menu c).armed = (u.menu c).armed := fun u quiet live => by
    have places := fun n => (Within.refl u c).recordPick quiet live k n false
    obtain ⟨col, placed⟩ := places {}
    have goes := placed.onChan fun x => x.leavePressed.goto .watch
    have same : ∀ {t : State} {y : Channel} {e : List Claim}, Within c u t y e → t.menu c = u.menu c := fun h => by
      obtain ⟨e, m, l, cause, lost, rfl, wf⟩ := h
      rfl
    have recorded : ((u.recordPick c k {} false).andThen fun u => u.onChan c fun x => x.leavePressed.goto .watch).menu c = u.menu c := by
      rw [State.andThen_live _ (placed.live live)]
      exact same goes
    unfold State.askOrRecord
    split
    · split
      · rfl
      · rw [recorded]
    · rw [recorded]
  rw [State.pickElement_eq, State.andThen_live _ live']
  intro same
  rw [kept _ (first.busFault.trans quiet) live', State.armed_disarm live'] at same
  have silent := ((Local.askOrRecord (c := c) k).around (q := .none) (first.busFault.trans quiet) live' closed').blink rfl
  rw [silent, State.disarm_unarmed same.symm]

/-- The blink generator changes in a channel's frame-end work only with its armed button. -/
theorem State.workIn_blink (m : Mode) : BlinkLaw c s (s.workIn m c) := by
  cases m with
  | off => exact fun _ => rfl
  | calibrating => exact ((Local.workIn .calibrating).around quiet live closed).blinkLaw rfl
  | tracking => exact ((Local.workIn .tracking).around quiet live closed).blinkLaw rfl
  | suspended => exact fun _ => rfl
  | glare => exact ((Local.workIn .glare).around quiet live closed).blinkLaw rfl
  | watch =>
    change BlinkLaw c s ((s.updateQual c).sightPick c)
    unfold State.sightPick
    split
    · split
      · exact fun _ => rfl
      · exact State.pickButton_blink (s := s.updateQual c) quiet live closed _
    · exact fun _ => rfl
  | pressed =>
    let u := (s.onChan c Channel.countWindow).updateQual c
    change BlinkLaw c s (u.pressedPick c)
    unfold State.pressedPick
    split
    · exact ((Local.windowFalls (c := c) (q := .none)).around (s := u) quiet live closed).blinkLaw rfl
    next q _ =>
      dsimp only
      split
      · have first := (Local.pickButton (c := c) (q.toPick (((u.chan c).press.map fun p => p.role.trigger).getD .tip))).around (s := u)
          quiet live closed
        rw [State.andThen_live _ (by rw [first.device]; exact live)]
        exact State.pickButton_blink (s := u) quiet live closed _
      · exact State.pickElement_blink (s := u) quiet live closed _

/-! ### The claims -/

omit closed in
theorem State.entries_endTrackFrame :
    (s.endTrackFrame c).claims.entries = if s.tipHeld c then s.claims.entries else withoutPen s.claims.entries c := by
  unfold State.endTrackFrame
  cases s.tipHeld c with
  | true =>
    rw [if_neg (by decide), if_pos rfl]
    split <;> rfl
  | false =>
    rw [if_pos (by rfl), if_neg (by decide)]
    have done := (Within.refl s c).closeTracking quiet live .dropped
    exact (Within.andThen done live (done.onChan fun x => x.leaveTracking.goto .watch)).entries

theorem State.entries_trackFrame :
    (s.trackFrame c).claims.entries = if s.tipHeld c then s.claims.entries else withoutPen s.claims.entries c := by
  have first := ((Local.onChan (c := c) (q := .none) fun x => { x with duration := min (x.duration + 1) 65535 }).comp .moveCentre).around
    quiet live closed
  have live' := (fun h => by rw [first.device]; exact h :
    s.regs.device ≠ .halted → ((s.onChan c fun x => { x with duration := min (x.duration + 1) 65535 }).moveCentre c).regs.device ≠ .halted) live
  rw [State.trackFrame_eq, State.andThen_live _ live']
  generalize (s.onChan c fun x => { x with duration := min (x.duration + 1) 65535 }).moveCentre c = u at first live'
  have tip : u.tipHeld c = s.tipHeld c := by
    unfold State.tipHeld State.held State.chanConfig State.config
    rw [first.loader, first.inputs]
  have ends := State.entries_endTrackFrame (s := u.onChan c fun x => { x with
      loss := if 0 < (crossUpdate c (s.chan c).centre (s.chan c).results).2.2.1 then 0 else x.loss + 1 }) (c := c)
    (first.busFault.trans quiet) live'
  rw [ends, State.onChan_claims, first.claims rfl]
  exact if_congr (by rw [show (u.onChan c _).tipHeld c = u.tipHeld c from rfl, tip]) rfl rfl

end

end Sys2Proof.Machine

/-! The frame end of both channels. -/

namespace Sys2Proof.Machine

/-! ### A channel's whole frame-end work -/

theorem State.lowerCountdown_eq (w : State) (c : Chan) (before : Option (Nat × Nat)) :
    ∃ ms e, w.lowerCountdown c before = { w with menus := ms, work := { w.work with expiry := e } } := by
  unfold State.lowerCountdown
  split
  · dsimp only
    split
    · exact ⟨_, _, rfl⟩
    · exact ⟨_, w.work.expiry, rfl⟩
  · exact ⟨w.menus, w.work.expiry, rfl⟩

/-- The confirm countdown at a frame end (R114). -/
theorem State.lowerCountdown_counts (w : State) (c : Chan) (before : Option (Nat × Nat)) :
    let m := w.menu c
    let counts := m.armed ≠ none ∧ m.armed = before
    (w.lowerCountdown c before).menu c = (if counts then { m with countdown := m.countdown - 1 } else m) ∧
      (w.work.expiry.get c = false →
        ((w.lowerCountdown c before).work.expiry.get c = true ↔ counts ∧ m.countdown - 1 = 0)) := by
  intro m counts
  have test : (m.armed.isSome && m.armed == before) = true ↔ counts := by
    rw [Bool.and_eq_true, Option.isSome_iff_ne_none, beq_iff_eq]
  unfold State.lowerCountdown
  by_cases falls : counts
  · rw [if_pos (test.mpr falls), if_pos falls]
    dsimp only
    split
    next zero =>
      refine ⟨w.menu_onMenu c fun x => { x with countdown := m.countdown - 1 }, fun _ => ⟨fun _ => ⟨falls, zero⟩, fun _ => ?_⟩⟩
      exact Pair.get_set_same _ _ _
    next above =>
      refine ⟨w.menu_onMenu c fun x => { x with countdown := m.countdown - 1 }, fun unexpired => ?_⟩
      exact ⟨fun h => absurd (unexpired.symm.trans h) nofun, fun h => absurd h.2 above⟩
  · rw [if_neg fun h => falls (test.mp h), if_neg falls]
    exact ⟨rfl, fun unexpired => ⟨fun h => absurd (unexpired.symm.trans h) nofun, fun h => absurd h.1 falls⟩⟩

section
variable {s : State} {c : Chan} (quiet : s.busQuiet) (live : s.regs.device ≠ .halted) (closed : s.claims.atClose.isSome)
include quiet live closed

/-- The work by state, then the countdown, then the highlight. -/
theorem State.chanFrame_eq : s.chanFrame c =
    (let w := (s.modeFrame c).lowerCountdown c (s.menu c).armed
     w.choose w.closeClaims c) := by
  have work := (Local.workIn (c := c) (s.chan c).mode).around quiet live closed
  have live' : (s.modeFrame c).regs.device ≠ .halted := by rw [State.modeFrame_eq, work.device]; exact live
  obtain ⟨ms, e, lowered⟩ := (s.modeFrame c).lowerCountdown_eq c (s.menu c).armed
  rw [State.chanFrame, State.andThen_live (s := s.modeFrame c) _ live', lowered]
  exact State.andThen_live _ live'

/-- What a channel's whole work leaves in the channel, as its work by state leaves it. -/
theorem State.chanFrame_own (unexpired : s.work.expiry.get c = false) :
    let w := s.modeFrame c
    let t := s.chanFrame c
    let m := w.menu c
    let counts := m.armed ≠ none ∧ m.armed = (s.menu c).armed
    t.chan c = w.chan c ∧ t.work.owed.get c = w.work.owed.get c ∧ t.claims.asks.get c = w.claims.asks.get c ∧
      t.menu c = (if counts then { m with countdown := m.countdown - 1 } else m) ∧
      (t.work.expiry.get c = true ↔ counts ∧ m.countdown - 1 = 0) ∧
      t.feedback.entry.get c = t.highlightEntry t.closeClaims c := by
  have work := (Local.workIn (c := c) (s.chan c).mode).around quiet live closed
  obtain ⟨menu, expiry⟩ := (s.modeFrame c).lowerCountdown_counts c (s.menu c).armed
  have still : (s.modeFrame c).work.expiry.get c = false := by
    refine (work.expires ?_).trans unexpired
    cases (s.chan c).mode <;> rfl
  have expiry := expiry still
  obtain ⟨ms, e, lowered⟩ := (s.modeFrame c).lowerCountdown_eq c (s.menu c).armed
  rw [State.chanFrame_eq quiet live closed]
  dsimp only
  rw [lowered] at menu expiry ⊢
  exact ⟨rfl, rfl, rfl, menu, expiry, State.entry_choose _ _ _⟩

/-- The claims after a channel's work: its pen's claim goes where its tracking ends with the tip not held. -/
theorem State.chanFrame_entries : (s.chanFrame c).claims.entries =
    if (s.chan c).mode = .tracking ∧ s.tipHeld c = false then withoutPen s.claims.entries c else s.claims.entries := by
  obtain ⟨ms, e, lowered⟩ := (s.modeFrame c).lowerCountdown_eq c (s.menu c).armed
  have same : (s.chanFrame c).claims.entries = (s.modeFrame c).claims.entries := by
    rw [State.chanFrame_eq quiet live closed, lowered]
    rfl
  rw [same, State.modeFrame_eq]
  have work := fun m => (Local.workIn (c := c) m).around quiet live closed
  by_cases tracks : (s.chan c).mode = .tracking
  · rw [tracks]
    refine (State.entries_trackFrame quiet live closed).trans ?_
    cases s.tipHeld c with
    | true => rw [if_pos rfl, if_neg fun h => nomatch h.2]
    | false => rw [if_neg Bool.false_ne_true, if_pos ⟨rfl, rfl⟩]
  · rw [if_neg fun h => tracks h.1]
    refine (work _).claims ?_
    cases mode : (s.chan c).mode with
    | tracking => exact absurd mode tracks
    | off => rfl
    | watch => rfl
    | pressed => rfl
    | calibrating => rfl
    | suspended => rfl
    | glare => rfl

theorem State.chanFrame_blink : BlinkLaw c s (s.chanFrame c) := by
  have law := State.workIn_blink (c := c) quiet live closed (s.chan c).mode
  obtain ⟨menu, -⟩ := (s.modeFrame c).lowerCountdown_counts c (s.menu c).armed
  obtain ⟨ms, e, lowered⟩ := (s.modeFrame c).lowerCountdown_eq c (s.menu c).armed
  have armed : ((s.chanFrame c).menu c).armed = ((s.modeFrame c).menu c).armed := by
    rw [State.chanFrame_eq quiet live closed]
    refine (congrArg Menu.armed menu).trans ?_
    split
    · rfl
    · rfl
  have blink : (s.chanFrame c).feedback.blink = (s.modeFrame c).feedback.blink := by
    rw [State.chanFrame_eq quiet live closed, lowered]
    rfl
  exact fun same => blink.trans (law (armed.symm.trans same))

end

/-! ### Both channels -/

/-- What the work of both channels leaves: each channel as its own work leaves it, and nothing else. -/
structure BothDone (s t : State) : Prop where
  own : ∀ c, Alike c (s.chanFrame c) t
  seen : ∀ c, (t.chan c).seen = (s.chan c).seen
  loader : t.loader = s.loader
  locks : t.locks = s.locks
  inputs : t.inputs = s.inputs
  idle : t.idle = s.idle
  requests : t.requests = s.requests
  beam : t.beam = s.beam
  atClose : t.claims.atClose = s.claims.atClose
  active : t.work.active = s.work.active
  period : t.work.period = s.work.period
  device : t.regs.device = s.regs.device
  quiet : t.busQuiet
  wf : Memory.wf s.mem → Memory.wf t.mem
  entries : t.claims.entries = s.claims.entries.filter fun k => [Chan.a, .b].all fun c =>
    !(k.holder == .pen c && (s.chan c).mode == .tracking && !s.tipHeld c)
  blink : (∀ c, (t.menu c).armed = (s.menu c).armed) → t.feedback.blink = s.feedback.blink

/-- The claims that a channel's work leaves, as a filter. -/
theorem withoutPen_if (k : List Claim) (c : Chan) (mode : Mode) (held : Bool) :
    (if mode = .tracking ∧ held = false then withoutPen k c else k) =
      k.filter fun x => !(x.holder == .pen c && mode == .tracking && !held) := by
  by_cases ends : mode = .tracking ∧ held = false
  · obtain ⟨rfl, rfl⟩ := ends
    rw [if_pos ⟨rfl, rfl⟩]
    refine List.filter_congr fun x _ => ?_
    simp [bne]
  · rw [if_neg ends, List.filter_eq_self.mpr]
    intro x _
    cases held with
    | true => simp
    | false =>
      have : (mode == Mode.tracking) = false := beq_eq_false_iff_ne.mpr fun is => ends ⟨is, rfl⟩
      simp [this]

theorem State.bothDone {s : State} (quiet : s.busQuiet) (live : s.regs.device ≠ .halted) (closed : s.claims.atClose.isSome) :
    BothDone s (s.eachChan State.chanFrame) := by
  obtain ⟨d, n, order⟩ := s.eachChan_order State.chanFrame
  let v : State := { s with choices := n }
  have start : ∀ c, Alike c s v := fun c =>
    ⟨quiet, quiet, live, live, rfl, rfl, rfl, rfl, rfl, rfl, rfl, rfl, rfl, rfl, rfl, rfl, closed⟩
  obtain ⟨one, first⟩ := Local.chanFrame v v (.refl d quiet live closed)
  have apart := first.alike quiet live closed
  have first_d := (Local.chanFrame s v (start d)).1
  let u := v.chanFrame d
  have closed' : u.claims.atClose.isSome := one.closed
  rw [State.andThen_live _ one.live] at order
  have first_o := (Local.chanFrame s u ((start (otherChan d)).trans apart)).1
  obtain ⟨two, second⟩ := Local.chanFrame u u (.refl (otherChan d) one.quiet one.live closed')
  have apart' := second.alike one.quiet one.live closed'
  have back : otherChan (otherChan d) = d := by cases d <;> rfl
  rw [back] at apart'
  rw [order]
  have tip : u.tipHeld (otherChan d) = s.tipHeld (otherChan d) := ((start (otherChan d)).trans apart).tipHeld
  have mode : u.chan (otherChan d) = s.chan (otherChan d) := first.chan
  refine
    { own := fun c => ?_, seen := fun c => ?_
      loader := second.loader.trans first.loader, locks := second.locks.trans first.locks
      inputs := second.inputs.trans first.inputs, idle := second.idle.trans first.idle
      requests := second.requests.trans first.requests, beam := second.beam.trans first.beam
      atClose := second.atClose.trans first.atClose, active := second.active.trans first.active
      period := second.period.trans first.period, device := second.device.trans first.device
      quiet := two.quiet, wf := fun w => second.wf (first.wf w), entries := ?_, blink := fun same => ?_ }
  · rcases chan_eq_or_other d c with rfl | rfl
    · exact first_d.trans apart'
    · exact first_o
  · rcases chan_eq_or_other d c with rfl | rfl
    · rw [apart'.chan]
      exact first.seen
    · exact second.seen.trans (congrArg Channel.seen mode)
  · rw [State.chanFrame_entries one.quiet one.live closed', mode, tip, State.chanFrame_entries (s := v) quiet live closed,
      withoutPen_if, withoutPen_if, List.filter_filter]
    refine List.filter_congr fun k _ => ?_
    have all : ∀ p : Chan → Bool, [Chan.a, .b].all p = (p (otherChan d) && p d) := fun p => by
      cases d with
      | a => simp [otherChan, Bool.and_comm]
      | b => simp [otherChan]
    exact (all fun c => !(k.holder == .pen c && (s.chan c).mode == .tracking && !s.tipHeld c)).symm
  · have here := State.chanFrame_blink (s := v) (c := d) quiet live closed
    have there := State.chanFrame_blink (c := otherChan d) one.quiet one.live closed'
    have armed_d := same d
    rw [apart'.menu] at armed_d
    refine (there ?_).trans (here armed_d)
    exact (same (otherChan d)).trans (congrArg Menu.armed first.menu.symm)

end Sys2Proof.Machine

/-! The end of a frame. -/

namespace Sys2Proof.Machine

/-! ### The state in which the channels work -/

theorem State.countBlink_eq (s : State) : s.countBlink = { s with
    feedback := { s.feedback with blink := s.feedback.blink.map fun k => k + 1 }
    work := { s.work with period := (s.feedback.blink.map fun k => decide (k + 1 = s.feedback.period)).getD s.work.period } } := by
  unfold State.countBlink
  cases is : s.feedback.blink with
  | none =>
    have same : ({ s.feedback with blink := none } : Feedback) = s.feedback := by rw [← is]
    rw [Option.map_none, Option.map_none, Option.getD_none, same]
  | some k => rfl

/-- The state at a close, once its frame is closed and the blink count raised: where the channels' work starts. -/
def State.atWork (s : State) : State := s.closeTrail.countBlink

theorem State.atWork_eq (s : State) : s.atWork = { s with
    beam := { s.beam with
      trail := endNewest s.beam.clock s.beam.trail, overLong := decide (s.beam.clock = 16777215), isOpen := false }
    chans := s.closeTrail.chans
    claims := { s.claims with atClose := some s.claims.entries, asks := ⟨none, none⟩ }
    feedback := { s.feedback with blink := s.feedback.blink.map fun k => k + 1 }
    work := ⟨true, ⟨none, none⟩, ⟨false, false⟩,
      (s.feedback.blink.map fun k => decide (k + 1 = s.feedback.period)).getD false⟩ } := by
  rw [State.atWork, State.countBlink_eq]
  rfl

/-- A channel at the close of a frame. -/
theorem State.chan_atWork (s : State) (c : Chan) : s.atWork.chan c =
    (let u : State := { s with beam := { s.beam with trail := endNewest s.beam.clock s.beam.trail } }
     Channel.lapseDue { s.chan c with
      results := (s.chan c).results ++ (s.chan c).pendingStrikes.map fun k => ⟨u.resolve c k, k.echo⟩
      pendingStrikes := [] }) := by
  rw [State.atWork, State.countBlink_eq]
  exact (s.chan_closeTrail c).trans (congrArg Channel.lapseDue (s.chan_endVector c))

theorem Channel.lapseDue_lapsed (x : Channel) : ∃ e, x.lapseDue = { x with echo := e } ∧ ∀ n, e ≠ .due n := by
  unfold Channel.lapseDue
  split
  next is => exact ⟨.none, by rw [← is], nofun⟩
  next n is => exact ⟨.scheduled n, by rw [← is], nofun⟩
  · exact ⟨.none, rfl, nofun⟩

/-- At the close only the strikes of a channel have changed, and its echo. -/
theorem State.chan_atWork_lapsed (s : State) (c : Chan) : ∃ r e, s.atWork.chan c =
    { s.chan c with results := r, pendingStrikes := [], echo := e } ∧ (∀ n, e ≠ .due n) ∧
    r = (s.chan c).results ++ (s.chan c).pendingStrikes.map fun k =>
      ⟨State.resolve { s with beam := { s.beam with trail := endNewest s.beam.clock s.beam.trail } } c k, k.echo⟩ := by
  obtain ⟨e, lapsed, gone⟩ := Channel.lapseDue_lapsed { s.chan c with
      results := (s.chan c).results ++ (s.chan c).pendingStrikes.map fun k =>
        ⟨State.resolve { s with beam := { s.beam with trail := endNewest s.beam.clock s.beam.trail } } c k, k.echo⟩
      pendingStrikes := [] }
  exact ⟨_, e, (s.chan_atWork c).trans lapsed, gone, rfl⟩

section
variable (s : State) (c : Chan)

theorem State.chanConfig_atWork : s.atWork.chanConfig c = s.chanConfig c := by rw [State.atWork_eq]; rfl

theorem State.tables_atWork : s.atWork.tables = s.tables := by rw [State.atWork_eq]; rfl

theorem State.tipHeld_atWork : s.atWork.tipHeld c = s.tipHeld c := by rw [State.atWork_eq]; rfl

theorem State.menu_atWork : s.atWork.menu c = s.menu c := by rw [State.atWork_eq]; rfl

theorem State.closeClaims_atWork : s.atWork.closeClaims = s.claims.entries := by rw [State.atWork_eq]; rfl

theorem State.device_atWork : s.atWork.regs.device = s.regs.device := by rw [State.atWork_eq]

theorem State.live_atWork (live : s.regs.device ≠ .halted) : s.atWork.regs.device ≠ .halted := by rw [State.device_atWork]; exact live

theorem State.quiet_atWork (quiet : s.busQuiet) : s.atWork.busQuiet := by rw [State.atWork_eq]; exact quiet

theorem State.closed_atWork : s.atWork.claims.atClose.isSome := by rw [State.atWork_eq]; rfl

theorem State.mode_atWork : (s.atWork.chan c).mode = (s.chan c).mode := by
  obtain ⟨r, e, is, -⟩ := s.chan_atWork_lapsed c
  rw [is]

end

/-! ### The work of a channel by its state -/

section
variable {u : State} {c : Chan} (quiet : u.busQuiet) (live : u.regs.device ≠ .halted) (closed : u.claims.atClose.isSome)
include quiet live closed

/-- A button taken on sight: the Menu Engine's record, then the entry's fired flag (R96, R98). -/
theorem State.pickButton_sight (q : Qual) : u.pickButton c (q.toPick .sight) =
    (u.buttonPick c q.tag .sight (q.sightings.any Sighting.echo)).onChan c fun x => { x with table := fireEntry x.table q.group q.tag } := by
  have first := (Local.buttonPick (c := c) q.tag .sight (q.sightings.any Sighting.echo)).around quiet live closed
  exact State.andThen_live (s := u.buttonPick c q.tag .sight (q.sightings.any Sighting.echo)) _ (by rw [first.device]; exact live)

end

/-- The work in WATCH at the close of `s`, told by what `s` holds. -/
theorem State.sightPick_atWork (s : State) (c : Chan) (quiet : s.busQuiet) (live : s.regs.device ≠ .halted) :
    s.atWork.workIn .watch c =
      (let seen := s.atWork.onChan c fun x =>
        { x with table := updateTable (s.chanConfig c).m (s.chanConfig c).k (sightingSet x.results) x.table }
       if (s.chanConfig c).buttonsOnSight then
         match bestQual s.tables ((seen.eligible s.claims.entries c).filter fun q => q.group == menuGroup c && !q.fired) with
         | none => seen
         | some q => (seen.buttonPick c q.tag .sight (q.sightings.any Sighting.echo)).onChan c fun x =>
           { x with table := fireEntry x.table q.group q.tag }
       else seen) := by
  let seen := s.atWork.updateQual c
  have updated : seen = s.atWork.onChan c fun x =>
      { x with table := updateTable (s.chanConfig c).m (s.chanConfig c).k (sightingSet x.results) x.table } := by
    dsimp only [seen]
    rw [State.updateQual, State.chanConfig_atWork]
  have config : seen.chanConfig c = s.chanConfig c := s.chanConfig_atWork c
  have tables : seen.tables = s.tables := s.tables_atWork
  have claims : seen.closeClaims = s.claims.entries := s.closeClaims_atWork
  have pick := State.pickButton_sight (u := seen) (c := c) (s.quiet_atWork quiet) (s.live_atWork live) s.closed_atWork
  change seen.sightPick c = _
  rw [← updated, State.sightPick, config, tables, claims]
  dsimp only
  generalize bestQual s.tables ((seen.eligible s.claims.entries c).filter fun q => q.group == menuGroup c && !q.fired) = best
  split
  · cases best with
    | none => rfl
    | some q => exact pick q
  · rfl

theorem State.calibrationFrame_eq (u : State) (c : Chan) (short : ¬8 ≤ (u.chan c).measures.length) : u.calibrationFrame c =
    (let spent := u.onChan c fun x => { x with budget := x.budget - 1 }
     if (u.chan c).budget - 1 = 0 then spent.owe c (some .tooFew) else spent) := by
  unfold State.calibrationFrame Config.measuresMax
  dsimp only
  rw [State.chan_onChan, if_neg short]
  rfl

theorem State.glareFrame_eq (u : State) (c : Chan) : u.glareFrame c =
    (let counted := u.onChan c fun x =>
      { x with glareFrames := min (x.glareFrames + 1) 65535, reminderPhase := (x.reminderPhase + 1) % 64 }
     if ((u.chan c).reminderPhase + 1) % 64 = 0 then counted.owe c (some .reminder) else counted) := by
  unfold State.glareFrame Config.countMax Config.reminderFrames
  dsimp only
  rw [State.chan_onChan]

/-! ### The whole close -/

/-- What a FRAME END leaves, `v` being the state once both channels have worked. -/
theorem exec_frameEnd {s : State} (still : s.frameQuiet) (quiet : s.busQuiet) (running : s.regs.device = .running)
    (isOpen : s.beam.isOpen = true) :
    ∃ v, exec .frameEnd s = .next v.finishFrame ∧ BothDone s.atWork v ∧ v.regs.device = .running := by
  have done := State.bothDone (s.quiet_atWork quiet) (s.live_atWork (by rw [running]; nofun)) s.closed_atWork
  have device' := done.device.trans (s.device_atWork.trans running)
  refine ⟨_, ?_, done, device'⟩
  refine congrArg Host.Outcome.next ?_
  rw [State.settleAll_quiet still, State.andThen_live _ (by rw [running]; nofun), if_pos (s.frameOpen_iff.mpr ⟨running, isOpen⟩)]
  exact State.andThen_live (s := s.atWork.eachChan State.chanFrame) _ (by rw [device']; nofun)

/-- The status section that ends a frame end shows what the frame end leaves. -/
theorem State.areaBytes_finishFrame {v : State} (quiet : v.busQuiet) (live : v.regs.device ≠ .halted) (wf : Memory.wf v.mem)
    (done : v.frameDone = true) : v.finishFrame.areaBytes 0x40 192 = statusImage v.finishFrame := by
  have image : ∀ bs, statusImage { v.writeArea 0x40 bs with work := FrameWork.none, claims := { v.claims with atClose := none } } =
      statusImage v := fun bs => rfl
  have read : ∀ bs, bs.length = 192 →
      State.areaBytes { v.writeArea 0x40 bs with work := FrameWork.none, claims := { v.claims with atClose := none } } 0x40 192 = bs :=
    fun bs long => by
      rw [← long]
      exact State.areaBytes_writeArea 0x40 bs wf
  rw [State.finishFrame_quiet quiet live, if_pos done]
  exact (read _ (length_statusImage v)).trans (image _).symm

/-- What the close leaves of the strikes of the frame. -/
theorem BothDone.strikes {s v : State} (both : BothDone s.atWork v) (c : Chan) :
    (v.chan c).pendingStrikes = [] ∧
      (v.chan c).results = (s.chan c).results ++ (s.chan c).pendingStrikes.map (fun k =>
        ⟨State.resolve { s with beam := { s.beam with trail := endNewest s.beam.clock s.beam.trail } } c k, k.echo⟩) ∧
      (∀ n, (v.chan c).echo ≠ .due n) ∧ (v.chan c).strikes = (s.chan c).strikes := by
  have seen := both.seen c
  obtain ⟨r, e, chan, lapsed, results⟩ := s.chan_atWork_lapsed c
  rw [chan] at seen
  obtain ⟨strikes, pending, found, echo⟩ : (v.chan c).strikes = (s.chan c).strikes ∧ (v.chan c).pendingStrikes = [] ∧
      (v.chan c).results = r ∧ (v.chan c).echo = e := by
    simpa [Channel.seen] using seen
  exact ⟨pending, found.trans results, fun n => by rw [echo]; exact lapsed n, strikes⟩

/-- What the frame end leaves of a channel, by the work of its state. -/
theorem BothDone.finished {s v : State} (both : BothDone s.atWork v) (running : s.regs.device = .running) (quiet : s.busQuiet)
    (done : Finished v v.finishFrame) (c : Chan) :
    let w := s.atWork.modeFrame c
    let t := v.finishFrame
    t.chan c = w.chan c ∧ t.work.owed.get c = w.work.owed.get c ∧ t.claims.asks.get c = w.claims.asks.get c ∧
      (let m := w.menu c
        let counts := m.armed ≠ none ∧ m.armed = (s.menu c).armed
        t.menu c = (if counts then { m with countdown := m.countdown - 1 } else m) ∧
          (t.work.expiry.get c = true ↔ counts ∧ m.countdown - 1 = 0)) ∧
      t.feedback.entry.get c = t.highlightEntry s.claims.entries c := by
  have live : s.atWork.regs.device ≠ .halted := s.live_atWork (by rw [running]; nofun)
  obtain ⟨chan, owed, ask, menu, expiry, entry⟩ := State.chanFrame_own (s := s.atWork) (c := c) (s.quiet_atWork quiet) live
    s.closed_atWork (by rw [State.atWork_eq]; cases c <;> rfl)
  have own := both.own c
  intro w t
  rw [done.chan, done.owed, done.menu, done.expiry, done.asks, done.feedback, own.chan, own.owed, own.menu, own.expiry, own.ask,
    own.entry, ← s.menu_atWork c]
  refine ⟨chan, owed, ask, ⟨menu, expiry⟩, entry.trans ?_⟩
  have claims : v.closeClaims = s.claims.entries := by
    rw [State.closeClaims, both.atClose, State.atWork_eq]
    rfl
  have live' : v.regs.device ≠ .halted := by rw [both.device]; exact live
  rw [← own.highlightEntry, claims, show t = _ from State.finishFrame_quiet both.quiet live']
  generalize statusImage v = image
  split
  · rfl
  · rfl

/-- Settles O17: the work by state stands at the close, and the other channel's work leaves what it left. -/
theorem frameEndClosesFrame : Obligations.FrameEndClosesFrame := by
  unfold Obligations.FrameEndClosesFrame
  intro s still quiet
  refine ⟨fun ignored => ?_, fun running isOpen => ?_⟩
  · refine congrArg Host.Outcome.next ?_
    have needs := State.settled_note still State.frameOpen State.closeFrame id
    rw [State.frameOpen_eq_false ignored, if_neg Bool.false_ne_true] at needs
    exact needs
  obtain ⟨v, ends, both, device⟩ := exec_frameEnd still quiet running isOpen
  have live : v.regs.device ≠ .halted := by rw [device]; nofun
  have done := State.finishFrame_finished both.quiet live
  have shows := State.areaBytes_finishFrame both.quiet live
  refine ⟨_, ends, done.device.trans device, done.beam.trans (both.beam.trans ?_), fun c => ?_, done.loader.trans (both.loader.trans ?_),
    done.locks.trans (both.locks.trans ?_), done.inputs.trans (both.inputs.trans ?_), done.idle.trans (both.idle.trans ?_),
    done.requests.trans (both.requests.trans ?_), ?_⟩
  · rw [State.atWork_eq]
  · rw [done.chan]
    exact both.strikes c
  · rw [State.atWork_eq]
  · rw [State.atWork_eq]
  · rw [State.atWork_eq]
  · rw [State.atWork_eq]
  · rw [State.atWork_eq]
  intro atClose work
  have same : ∀ c, work c = s.atWork.modeFrame c := fun c => by
    rw [State.modeFrame_eq, State.mode_atWork]
    dsimp only [work]
    have chan := s.chan_atWork_lapsed c
    cases mode : (s.chan c).mode with
    | off => rfl
    | pressed => rfl
    | tracking => rfl
    | suspended => rfl
    | watch => exact (s.sightPick_atWork c quiet (by rw [running]; nofun)).symm
    | calibrating =>
      obtain ⟨r, e, chan, -⟩ := chan
      dsimp only
      split
      · rfl
      next short =>
        have at_close := s.atWork.calibrationFrame_eq c (by rw [chan]; exact short)
        rw [chan] at at_close
        exact at_close.symm
    | glare =>
      obtain ⟨r, e, chan, -⟩ := chan
      have at_close := s.atWork.glareFrame_eq c
      rw [chan] at at_close
      exact at_close.symm
  refine ⟨fun c => ?_, ?_, fun unarmed => ?_, ?_, fun wf silent => ?_⟩
  · rw [same]
    exact both.finished running quiet done c
  · rw [done.entries, both.entries]
    refine (List.filter_congr fun k _ => ?_).trans (congrArg (List.filter _) (by rw [State.atWork_eq]))
    simp only [State.mode_atWork, State.tipHeld_atWork]
  · rw [done.feedback, both.blink fun c => ?_, State.atWork_eq]
    rw [← done.menu, unarmed, State.menu_atWork]
  · rw [done.period, both.period, State.atWork_eq]
    dsimp only
    cases s.feedback.blink with
    | none => simp
    | some k => simp
  · have closes : v.frameDone = true := by
      by_contra open_
      rw [State.finishFrame_quiet both.quiet live, if_neg open_] at silent
      have active := both.active.trans (by rw [State.atWork_eq])
      exact absurd (active.symm.trans (congrArg FrameWork.active silent.1)) nofun
    exact shows (both.wf (by rw [State.atWork_eq]; exact wf)) closes

end Sys2Proof.Machine

/-! What is left once a frame end has settled all that it owes. -/

namespace Sys2Proof.Machine

/-! ### The steps of a frame end, as calm work -/

section
variable {s : State} (quiet : s.busQuiet)
include quiet

theorem Calm.missAndGo (c : Chan) (r : MissReason) (element : Option (Nat × Nat)) (echo : Bool) (m : Mode) :
    Calm s (s.missAndGo c r element echo m) :=
  (Calm.record quiet c _ _).andThen (.onChan _ c {})

theorem Calm.recordPick (c : Chan) (k : Pick) (n : Notes) (tracking : Bool) : Calm s (s.recordPick c k n tracking) := by
  have joins : Calm s (s.onChan c fun x => { x with collection := (collectTag (s.chan c).collection k.tag).2.2 }) := .onChan s c {}
  have placed := joins.trans (Calm.record (joins.quiet quiet) c
    { n with echo := k.echo, again := (collectTag (s.chan c).collection k.tag).2.1 }
    (.pick k (loftPoint s.tables k.group k.point) (collectTag (s.chan c).collection k.tag).1 tracking))
  unfold State.recordPick
  refine Calm.andThen placed ?_
  split
  · exact .endCollection (placed.quiet quiet) c .complete
  · exact .refl _

/-- What a step of a frame end does to what the frame end owes is to take the step off. -/
theorem Calm.doOwed (c : Chan) : Calm (s.owe c none) (s.doOwed c) := by
  cases owes : s.work.owed.get c with
  | none =>
    have same : s.work.owed.set c none = s.work.owed := by
      rw [← owes]
      cases c <;> rfl
    rw [State.doOwed, owes, State.owe, same]
    exact .refl s
  | some o =>
    rw [State.doOwed_eq owes]
    refine Calm.andThen ?_ {}
    cases o with
    | reminder =>
      have counts : Calm (s.owe c none) ((s.owe c none).onChan c fun x => { x with reminders := min (x.reminders + 1) Config.countMax }) :=
        .onChan _ c {}
      exact counts.trans (.record (counts.quiet (s := s.owe c none) quiet) c _ _)
    | tooFew => exact .endCalibration (s := s.owe c none) quiet c _ _
    | miss => exact .missAndGo (s := s.owe c none) quiet c _ _ _ _
    | lost => exact .endTracking (s := s.owe c none) quiet c _

/-- A state with the confirm expiry of a channel off. -/
def State.unexpire (s : State) (c : Chan) : State := { s with work := { s.work with expiry := s.work.expiry.set c false } }

theorem Calm.doExpiry (c : Chan) : Calm (s.unexpire c) (s.doExpiry c) :=
  (Calm.disarm (s := s.unexpire c) quiet c .expired).andThen {}

omit quiet in
theorem Calm.unexpire {s t : State} {c : Chan} (h : Calm s t) : Calm (s.unexpire c) (t.unexpire c) :=
  { h with work := by rw [State.unexpire, h.work]; rfl }

/-- A channel's steps take off what the channel owes. -/
theorem Calm.settleChan (c : Chan) (live : s.regs.device ≠ .halted) : Calm ((s.owe c none).unexpire c) (s.settleChan c) := by
  have first := Calm.doOwed quiet c
  rw [State.settleChan, State.andThen_live _ (by rw [first.live]; exact live)]
  have expiry : (s.doOwed c).work.expiry.get c = s.work.expiry.get c := by rw [first.work]; rfl
  rw [expiry]
  cases expires : s.work.expiry.get c with
  | true => exact first.unexpire.trans (.doExpiry (first.quiet (s := s.owe c none) quiet) c)
  | false =>
    have same : s.work.expiry.set c false = s.work.expiry := by
      rw [← expires]
      cases c <;> rfl
    rw [State.unexpire, show (s.owe c none).work.expiry = s.work.expiry from rfl, same]
    exact first

end

/-! ### The settled frame -/

/-- What the settling of a frame end leaves: the frame is over, and of it the channels' strikes and echoes stand. -/
structure AtRest (s t : State) : Prop where
  beam : t.beam = s.beam
  device : t.regs.device = s.regs.device
  quiet : t.busQuiet
  still : t.frameQuiet
  loader : t.loader = s.loader
  stays : ∀ c, (s.chan c).Stays (t.chan c)

theorem Calm.withWork {s t : State} (h : Calm s t) (w : FrameWork) : Calm { s with work := w } { t with work := w } :=
  { h with work := rfl }

theorem Calm.withAsks {s t : State} (h : Calm s t) (a : Pair (Option Ask)) :
    Calm { s with claims := { s.claims with asks := a } } { t with claims := { t.claims with asks := a } } :=
  { h with asks := rfl }

theorem Calm.withChoices {s t : State} (h : Calm s t) (n : Nat) : Calm { s with choices := n } { t with choices := n } :=
  { h with choices := rfl }

/-- The steps of both channels leave nothing owed by either. -/
theorem Calm.settleBoth {s : State} (quiet : s.busQuiet) (live : s.regs.device ≠ .halted) :
    ∃ n, Calm { s with choices := n, work := ⟨s.work.active, ⟨none, none⟩, ⟨false, false⟩, s.work.period⟩ }
      (s.eachChan State.settleChan) := by
  obtain ⟨d, n, order⟩ := s.eachChan_order State.settleChan
  have one := Calm.settleChan (s := { s with choices := n }) quiet d live
  let u := State.settleChan d { s with choices := n }
  have live' : u.regs.device ≠ .halted := by rw [one.live]; exact live
  have two := Calm.settleChan (s := u) (one.quiet (s := ((State.owe { s with choices := n } d none).unexpire d)) quiet) (otherChan d) live'
  rw [State.andThen_live _ live'] at order
  rw [order]
  let rest : FrameWork := ⟨s.work.active, ⟨none, none⟩, ⟨false, false⟩, s.work.period⟩
  have paid : (u.owe (otherChan d) none).unexpire (otherChan d) = { u with work := rest } := by
    rw [State.unexpire, State.owe, one.work]
    cases d <;> rfl
  rw [paid] at two
  exact ⟨n, (one.withWork rest).trans two⟩

/-- The asks of a frame end decided: none is left. -/
theorem Calm.afterAnswer {s : State} (quiet : s.busQuiet) (c : Chan) (k : Ask) (r : Answer) :
    Calm (s.setAsk c none) (s.afterAnswer c k r) := by
  have calm : (s.setAsk c none).busQuiet := quiet
  have goes : ∀ (t : State), Calm t (t.onChan c fun x => x.leavePressed.goto .watch) := fun t => .onChan t c {}
  have told : ∀ {t : State}, Calm (s.setAsk c none) t → Calm (s.setAsk c none) (t.andThen fun u => u.choose u.closeClaims c) :=
    fun h => h.andThen {}
  unfold State.afterAnswer
  refine told ?_
  cases r with
  | granted => exact .recordPick calm c _ _ _
  | full => exact (Calm.recordPick calm c _ _ _).andThen (goes _)
  | contested =>
    dsimp only
    split
    · exact (Calm.recordPick calm c _ _ _).andThen (goes _)
    · exact .missAndGo calm c _ _ _ _

theorem Calm.grant (s : State) (c : Chan) (k : Ask) (r : Answer) : Calm s (s.grant c k r) := by
  cases r with
  | granted =>
    have claims : Calm s (s.onClaims fun e => e ++ [⟨k.pick.tag, .pen c⟩]) := {}
    have tracks : Calm s (s.startTracking c k.pick) := claims.trans (.onChan _ c {})
    exact tracks.trans {}
  | contested => exact .refl s
  | full => exact .refl s

/-- Two channels told their answers. -/
theorem Calm.tellBoth {s : State} (quiet : s.busQuiet) (live : s.regs.device ≠ .halted) (k : Chan → Ask) (r : Chan → Answer) :
    ∃ n, Calm { s with choices := n, claims := { s.claims with asks := ⟨none, none⟩ } }
      (s.eachChan fun c v => v.afterAnswer c (k c) (r c)) := by
  obtain ⟨d, n, order⟩ := s.eachChan_order fun c v => v.afterAnswer c (k c) (r c)
  have one := Calm.afterAnswer (s := { s with choices := n }) quiet d (k d) (r d)
  let u := State.afterAnswer { s with choices := n } d (k d) (r d)
  have live' : u.regs.device ≠ .halted := by rw [one.live]; exact live
  have two := Calm.afterAnswer (s := u) (one.quiet (s := State.setAsk { s with choices := n } d none) quiet) (otherChan d)
    (k (otherChan d)) (r (otherChan d))
  rw [State.andThen_live _ live'] at order
  rw [order]
  have told : u.setAsk (otherChan d) none = { u with claims := { u.claims with asks := ⟨none, none⟩ } } := by
    rw [State.setAsk, one.asks]
    cases d <;> rfl
  rw [told] at two
  exact ⟨n, (one.withAsks ⟨none, none⟩).trans two⟩

theorem Calm.loneAsk {s : State} (quiet : s.busQuiet) (c : Chan) (k : Ask) (r : Answer)
    (alone : s.claims.asks.set c none = ⟨none, none⟩) :
    Calm { s with claims := { s.claims with asks := ⟨none, none⟩ } } ((s.grant c k r).afterAnswer c k r) := by
  have granted := Calm.grant s c k r
  have told := Calm.afterAnswer (granted.quiet quiet) c k r
  have none : (s.grant c k r).setAsk c none = { s.grant c k r with claims := { (s.grant c k r).claims with asks := ⟨none, none⟩ } } := by
    rw [State.setAsk, granted.asks, alone]
  rw [none] at told
  exact (granted.withAsks ⟨.none, .none⟩).trans told

theorem Calm.decideAsks {s : State} (quiet : s.busQuiet) (live : s.regs.device ≠ .halted) :
    ∃ n, Calm { s with choices := n, claims := { s.claims with asks := ⟨none, none⟩ } } s.decideAsks := by
  cases asks : s.claims.asks with
  | mk a b =>
  unfold State.decideAsks
  rw [asks]
  cases a with
  | none =>
    cases b with
    | none =>
      dsimp only
      refine ⟨s.choices, ?_⟩
      rw [← asks]
      exact .refl s
    | some k => exact ⟨s.choices, .loneAsk quiet .b k _ (by rw [asks]; rfl)⟩
  | some ka =>
    cases b with
    | none => exact ⟨s.choices, .loneAsk quiet .a ka _ (by rw [asks]; rfl)⟩
    | some kb =>
      dsimp only
      generalize pressAFirst s.beam.frame ka.press kb.press = first
      generalize answerOne s.claims.entries (if first then ka else kb) = r1
      have one : Calm s (if first then s.grant .a ka r1 else s.grant .b kb r1) := by
        cases first with
        | true => exact .grant s _ _ _
        | false => exact .grant s _ _ _
      generalize (if first then s.grant .a ka r1 else s.grant .b kb r1) = t at one
      generalize (if ka.pick.tag = kb.pick.tag then Answer.contested else answerOne t.claims.entries (if first then kb else ka)) = r2
      have two : Calm s (if first then t.grant .b kb r2 else t.grant .a ka r2) := by
        cases first with
        | true => exact one.trans (.grant t _ _ _)
        | false => exact one.trans (.grant t _ _ _)
      generalize (if first then t.grant .b kb r2 else t.grant .a ka r2) = u at two
      generalize (if first then r1 else r2) = ra
      generalize (if first then r2 else r1) = rb
      obtain ⟨n, told⟩ := Calm.tellBoth (two.quiet quiet) (by rw [two.live]; exact live) (Pair.get ⟨ka, kb⟩) (Pair.get ⟨ra, rb⟩)
      refine ⟨n, Eq.subst (motive := Calm _) (congrArg u.eachChan (funext fun c => ?_)) (((two.withAsks ⟨none, none⟩).withChoices n).trans told)⟩
      cases c with
      | a => rfl
      | b => rfl

/-- The end of a frame end that owes nothing but what the asks owe. -/
theorem State.finishFrame_atRest {s : State} (quiet : s.busQuiet) (live : s.regs.device ≠ .halted)
    (work : s.work = ⟨true, ⟨none, none⟩, ⟨false, false⟩, false⟩) (asks : s.claims.asks = ⟨none, none⟩) :
    AtRest s s.finishFrame := by
  have done := State.finishFrame_finished quiet live
  have closes : s.frameDone = true := by
    rw [State.frameDone, work, asks]
    rfl
  refine ⟨done.beam, done.device, done.busFault.trans quiet, ⟨?_, done.asks.trans asks⟩, done.loader, fun c => by rw [done.chan]; exact {}⟩
  rw [State.finishFrame_quiet quiet live, if_pos closes]

theorem State.frameDone_asks {s : State} (done : s.frameDone = true) : s.claims.asks = ⟨none, none⟩ := by
  simp only [State.frameDone, Bool.and_eq_true, Option.isNone_iff_eq_none] at done
  obtain ⟨⟨-, a⟩, b⟩ := done
  exact congrArg₂ Pair.mk a b

theorem State.frameDone_of_work {s : State} (work : s.work = ⟨true, ⟨none, none⟩, ⟨false, false⟩, false⟩)
    (asks : ¬(s.claims.asks.a.isSome ∨ s.claims.asks.b.isSome)) : s.frameDone = true := by
  rw [State.frameDone, work]
  simpa using asks

/-- What follows calm work starts where the work started. -/
theorem AtRest.after {s t u : State} (h : AtRest t u) (k : Calm s t) : AtRest s u where
  beam := h.beam.trans k.beam
  device := h.device.trans k.live
  quiet := h.quiet
  still := h.still
  loader := h.loader.trans k.loader
  stays := fun c => (k.stays c).trans (h.stays c)

theorem State.doPeriod_eq (s : State) : ∃ f, s.doPeriod = { s with work := { s.work with period := false }, feedback := f } := by
  unfold State.doPeriod
  split
  · exact ⟨_, rfl⟩
  · exact ⟨s.feedback, rfl⟩

/-- The blink period's end, where it is owed. -/
theorem Calm.periodEnds (s : State) : Calm { s with work := { s.work with period := false } } (if s.work.period then s.doPeriod else s) := by
  cases period : s.work.period with
  | true =>
    obtain ⟨f, is⟩ := s.doPeriod_eq
    rw [if_pos rfl, is]
    exact {}
  | false =>
    have same : ({ s.work with period := false } : FrameWork) = s.work := by rw [← period]
    rw [if_neg Bool.false_ne_true, same]
    exact .refl s

/-- What a frame end owes is taken off, to the decision of its asks. -/
theorem Calm.settlePaid {s : State} (quiet : s.busQuiet) (running : s.regs.device = .running) (active : s.work.active = true) :
    ∃ n p, Calm { s with choices := n, work := ⟨true, ⟨none, none⟩, ⟨false, false⟩, false⟩ } p ∧ s.settle = p.finishFrame := by
  have live : s.regs.device ≠ .halted := by rw [running]; nofun
  obtain ⟨n, both⟩ := Calm.settleBoth quiet live
  rw [active] at both
  have settles : s.settle = ((s.eachChan State.settleChan).andThen fun t => if t.work.period then t.doPeriod else t).andThen
      State.finishFrame := if_pos ⟨running, active⟩
  generalize s.eachChan State.settleChan = u at both settles
  have ends := Calm.periodEnds u
  have work : ({ u.work with period := false } : FrameWork) = ⟨true, ⟨none, none⟩, ⟨false, false⟩, false⟩ := by rw [both.work]
  rw [work] at ends
  have paid := (both.withWork ⟨true, ⟨none, none⟩, ⟨false, false⟩, false⟩).trans ends
  have live' : u.regs.device ≠ .halted := by rw [both.live]; exact live
  refine ⟨n, _, paid, settles.trans ?_⟩
  rw [State.andThen_live _ live']
  exact State.andThen_live _ (by rw [paid.live]; exact live)

/-- A whole frame end settled. -/
theorem State.settleAll_atRest {s : State} (quiet : s.busQuiet) (running : s.regs.device = .running)
    (active : s.work.active = true) : AtRest s s.settleAll := by
  have live : s.regs.device ≠ .halted := by rw [running]; nofun
  obtain ⟨n, p, paid, settles⟩ := Calm.settlePaid quiet running active
  have quiet' : p.busQuiet := paid.quiet (s := { s with choices := n, work := _ }) quiet
  have device : p.regs.device = .running := paid.live.trans running
  have live' : p.regs.device ≠ .halted := by rw [device]; nofun
  have back : ∀ {u}, AtRest p u → AtRest s u := fun h => by
    have all := h.after paid
    exact ⟨all.beam, all.device, all.quiet, all.still, all.loader, all.stays⟩
  rw [State.settleAll, settles]
  by_cases done : p.frameDone = true
  · have rest := State.finishFrame_atRest quiet' live' paid.work (State.frameDone_asks done)
    rw [State.andThen_live _ (by rw [rest.device]; exact live'), State.stepAsks_quiet rest.still]
    exact back rest
  · have asks := fun none => done (State.frameDone_of_work paid.work none)
    rw [State.finishFrame_quiet quiet' live', if_neg done, State.andThen_live _ live']
    obtain ⟨n', decided⟩ := Calm.decideAsks quiet' live'
    have decides : p.stepAsks = p.decideAsks.andThen State.finishFrame := if_pos ⟨device, not_not.mp asks⟩
    have rest := State.finishFrame_atRest (decided.quiet (s := { p with choices := n', claims := _ }) quiet')
      (by rw [decided.live]; exact live') (decided.work.trans paid.work) decided.asks
    rw [decides, State.andThen_live _ (by rw [decided.live]; exact live')]
    have all := rest.after decided
    exact back ⟨all.beam, all.device, all.quiet, all.still, all.loader, all.stays⟩

end Sys2Proof.Machine

/-! What the work at the start of a frame leaves: the installs, the looks, the request sample and the draining. -/

namespace Sys2Proof.Machine

/-! ### Work within a frame -/

/-- A channel in which no strike of the frame has left anything. -/
def Channel.bare (x : Channel) : Prop := x.strikes = 0 ∧ x.results = [] ∧ x.measured = false

/-- From `s` to `t` the frame goes on, with what a frame end owes; a channel that is bare stays bare, and where `echoes` is set no
echo is lost. -/
structure InFrame (echoes : Bool) (s t : State) : Prop where
  beam : t.beam = s.beam := by rfl
  device : t.regs.device = s.regs.device := by rfl
  busFault : t.busFault = s.busFault := by rfl
  work : t.work = s.work := by rfl
  asks : t.claims.asks = s.claims.asks := by rfl
  bare : ∀ c, (s.chan c).bare → (t.chan c).bare := by exact fun _ => id
  echo : echoes = true → ∀ c, (s.chan c).echo.isPending = true → (t.chan c).echo = (s.chan c).echo := by exact fun _ _ _ => rfl

section
variable {q : Bool} {s t u : State}

theorem InFrame.refl (q : Bool) (s : State) : InFrame q s s := {}

theorem InFrame.trans (h : InFrame q s t) (k : InFrame q t u) : InFrame q s u where
  beam := k.beam.trans h.beam
  device := k.device.trans h.device
  busFault := k.busFault.trans h.busFault
  work := k.work.trans h.work
  asks := k.asks.trans h.asks
  bare := fun c => k.bare c ∘ h.bare c
  echo := fun on c pending => by
    have same := h.echo on c pending
    exact (k.echo on c (by rw [same]; exact pending)).trans same

theorem InFrame.quiet (h : InFrame q s t) (quiet : s.busQuiet) : t.busQuiet := h.busFault.trans quiet

theorem InFrame.live (h : InFrame q s t) (live : s.regs.device ≠ .halted) : t.regs.device ≠ .halted := by rw [h.device]; exact live

theorem InFrame.still (h : InFrame q s t) (still : s.frameQuiet) : t.frameQuiet := ⟨h.work.trans still.1, h.asks.trans still.2⟩

theorem InFrame.andThen {f : State → State} (h : InFrame q s t) (k : InFrame q t (f t)) : InFrame q s (t.andThen f) := by
  unfold State.andThen
  split
  · exact h
  · exact h.trans k

theorem InFrame.ite {p : Prop} [Decidable p] (h : p → InFrame q s t) (k : ¬p → InFrame q s u) : InFrame q s (if p then t else u) := by
  split
  next yes => exact h yes
  next no => exact k no

theorem Calm.inFrame (h : Calm s t) : InFrame q s t where
  beam := h.beam
  device := h.live
  busFault := h.busFault
  work := h.work
  asks := h.asks
  bare := fun c ⟨strikes, results, measured⟩ => ⟨(h.stays c).strikes strikes, (h.stays c).results results, (h.stays c).measured measured⟩
  echo := fun _ c => (h.stays c).echo

theorem Logged.inFrame (h : Logged s t) : InFrame q s t := h.calm.inFrame

/-- Work on one channel that keeps it bare. -/
theorem Within.inFrame {c : Chan} {y : Channel} {k : List Claim} (h : Within c s t y k) (bare : (s.chan c).bare → y.bare) :
    InFrame false s t where
  beam := by
    obtain ⟨e, m, l, cause, lost, rfl, wf⟩ := h
    rfl
  device := h.device
  busFault := by
    obtain ⟨e, m, l, cause, lost, rfl, wf⟩ := h
    rfl
  work := by
    obtain ⟨e, m, l, cause, lost, rfl, wf⟩ := h
    rfl
  asks := h.asks
  bare := fun d => by
    rcases chan_eq_or_other c d with rfl | rfl
    · rw [h.chan]
      exact bare
    · rw [h.other]
      exact id
  echo := nofun

/-- Work of both channels. -/
theorem InFrame.eachChan {f : Chan → State → State} (quiet : s.busQuiet) (live : s.regs.device ≠ .halted)
    (h : ∀ c u, u.busQuiet → u.regs.device ≠ .halted → InFrame q u (f c u)) : InFrame q s (s.eachChan f) := by
  obtain ⟨d, n, order⟩ := s.eachChan_order f
  rw [order]
  have start : InFrame q s { s with choices := n } := {}
  have one := h d { s with choices := n } quiet live
  exact (start.trans one).andThen (h (otherChan d) _ (one.quiet quiet) (one.live live))

end

/-! ### A channel at an install of the configuration -/

section
variable {s : State} {c : Chan}

/-- What the end of a calibration leaves of a channel that an install disables. -/
def Channel.disabledLeft (x : Channel) : Channel :=
  if x.mode = .calibrating then
    { x.leaveCalibrating.goto .calibrating with lastCal := some (.disabled, (middleTicks x.measures).getD 0) }
  else x

/-- A channel disabled (R20): the work of the state it leaves, and then its last steps. -/
theorem State.disableChan_eq (quiet : s.busQuiet) (live : s.regs.device ≠ .halted) :
    ∃ w, Within c s w { (s.chan c).disabledLeft with collection := none }
      (if (s.chan c).mode = .tracking ∨ (s.chan c).mode = .suspended then withoutPen s.claims.entries c else s.claims.entries) ∧
      s.disableChan c = (w.onChan c Channel.switchOff).chooseNow c := by
  have start := Within.refl s c
  have ends : ∀ {t : State} {y : Channel} {k : List Claim}, Within c s t y k →
      ∃ w, Within c s w { y with collection := none } k ∧
        ((t.andThen fun t => t.endCollection c .aborted).andThen fun t => (t.onChan c Channel.switchOff).chooseNow c) =
          (w.onChan c Channel.switchOff).chooseNow c := fun h => by
    have collected := Within.andThen (f := fun t => t.endCollection c .aborted) h live (h.endCollection quiet live .aborted)
    exact ⟨_, collected, State.andThen_live _ (collected.live live)⟩
  unfold State.disableChan Channel.disabledLeft
  refine ends ?_
  cases (s.chan c).mode with
  | off => exact start
  | watch => exact start
  | pressed => exact start
  | calibrating => exact start.endCalibration quiet live _ _
  | tracking => exact start.closeTracking quiet live _
  | suspended => exact start.closeTracking quiet live _
  | glare => exact start

theorem State.disableChan_within (quiet : s.busQuiet) (live : s.regs.device ≠ .halted) :
    Within c s (s.disableChan c) (Channel.switchOff { (s.chan c).disabledLeft with collection := none })
      (if (s.chan c).mode = .tracking ∨ (s.chan c).mode = .suspended then withoutPen s.claims.entries c else s.claims.entries) := by
  obtain ⟨w, left, is⟩ := State.disableChan_eq (c := c) quiet live
  rw [is]
  exact (left.onChan Channel.switchOff).chooseNow c

theorem InFrame.disableChan (quiet : s.busQuiet) (live : s.regs.device ≠ .halted) : InFrame false s (s.disableChan c) := by
  refine (State.disableChan_within quiet live).inFrame fun ⟨strikes, results, measured⟩ => ?_
  unfold Channel.disabledLeft
  split
  · exact ⟨strikes, rfl, rfl⟩
  · exact ⟨strikes, rfl, measured⟩

theorem InFrame.glareBegins (quiet : s.busQuiet) (live : s.regs.device ≠ .halted) : InFrame false s (s.glareBegins c) := by
  refine (State.glareBegins_within c quiet live).inFrame fun ⟨strikes, results, measured⟩ => ?_
  unfold Channel.glareLeft
  split
  · exact ⟨strikes, rfl, measured⟩
  · exact ⟨strikes, rfl, rfl⟩
  all_goals exact ⟨strikes, rfl, measured⟩

theorem Calm.glareEnds (quiet : s.busQuiet) : Calm s (s.glareEnds c) :=
  ((Calm.record quiet c _ _).andThen (.onChan _ c {})).andThen {}

theorem InFrame.changeHistory {q : Bool} : InFrame q s (s.changeHistory c) := by
  have emptied : Calm s (s.onChan c fun x => { x with table := [] }) := .onChan s c {}
  exact (emptied.trans {}).inFrame

theorem InFrame.changeEdge {q : Bool} (quiet : s.busQuiet) (e : Edge) : InFrame q s (s.changeEdge c e) := by
  unfold State.changeEdge
  split
  · exact (Calm.onChan s c {}).inFrame
  · have stopped : Calm s (s.onChan c fun x => { x with glareTimer := none }) := .onChan s c {}
    dsimp only
    split
    · exact (stopped.trans (.glareEnds (stopped.quiet quiet))).inFrame
    · exact stopped.inFrame

theorem InFrame.changeThreshold (quiet : s.busQuiet) (live : s.regs.device ≠ .halted) (n : Nat) :
    InFrame false s (s.changeThreshold c n) := by
  unfold State.changeThreshold
  split
  · exact .glareBegins quiet live
  · exact .refl _ s

theorem InFrame.changeFields (quiet : s.busQuiet) (live : s.regs.device ≠ .halted) (was now : ChannelConfig) :
    InFrame false s (s.changeFields c was now) := by
  unfold State.changeFields
  have history : InFrame false s (if was.m = now.m ∧ was.k = now.k then s else s.changeHistory c) :=
    .ite (fun _ => .refl _ s) fun _ => .changeHistory
  generalize (if was.m = now.m ∧ was.k = now.k then s else s.changeHistory c) = u at history
  have edge : InFrame false s (u.andThen fun t => if was.edge = now.edge then t else t.changeEdge c now.edge) :=
    history.andThen (.ite (fun _ => .refl _ u) fun _ => .changeEdge (history.quiet quiet) now.edge)
  generalize (u.andThen fun t => if was.edge = now.edge then t else t.changeEdge c now.edge) = v at edge
  exact edge.andThen (.ite (fun _ => .refl _ v) fun _ => .changeThreshold (edge.quiet quiet) (edge.live live) _)

theorem InFrame.installChan (quiet : s.busQuiet) (live : s.regs.device ≠ .halted) (was now : ChannelConfig) :
    InFrame false s (s.installChan c was now) := by
  have changed : InFrame false s (if (s.chan c).mode = .off then
      if now.enable then (s.onChan c fun x => x.enableWith now).chooseNow c else s
      else if now.enable then s.changeFields c was now else s.disableChan c) := by
    refine .ite (fun _ => .ite (fun _ => ?_) fun _ => .refl _ s) fun _ => .ite (fun _ => .changeFields quiet live was now) fun _ =>
      .disableChan quiet live
    exact (((Within.refl s c).onChan fun x => x.enableWith now).chooseNow c).inFrame fun ⟨_, _, measured⟩ => ⟨rfl, rfl, measured⟩
  exact changed.andThen (.ite (fun _ => (Calm.onChan _ c {}).inFrame) fun _ => .refl _ _)

end

/-! ### The other blocks at an install -/

section
variable {s : State}

theorem InFrame.pressChan {q : Bool} {c : Chan} {r : Role} : InFrame q s (s.pressChan c r) := by
  unfold State.pressChan
  refine .ite (fun _ => ?_) fun _ => .refl _ _
  have opened : Calm s (s.onChan c fun x => { x with
      mode := .pressed, windowCount := (s.chanConfig c).pressWindow, windowFrames := 0
      press := some ⟨r, s.beam.frame, s.beam.clock⟩, stage := .noStrike, windowResults := 0, windowEcho := false }) := .onChan s c {}
  exact (opened.trans {}).inFrame

theorem InFrame.handOn {q : Bool} (quiet : s.busQuiet) (i : Fin 8) (pressed : Bool) : InFrame q s (s.handOn i pressed) := by
  unfold State.handOn
  split
  next c r _ =>
    rw [State.penSwitch, State.present_eq]
    have woken : InFrame q s { s with idle := s.wakened .penSwitch } := {}
    split
    next is =>
      obtain ⟨-, rfl⟩ := Prod.mk.inj is
      exact woken
    next is =>
      obtain ⟨-, rfl⟩ := Prod.mk.inj is
      refine woken.trans (.ite (fun _ => ?_) fun _ => .refl _ _)
      exact .pressChan
  · rw [State.consoleSwitch, State.present_eq]
    have woken : InFrame q s { s with idle := s.wakened .consoleSwitch } := {}
    split
    next is =>
      obtain ⟨-, rfl⟩ := Prod.mk.inj is
      exact woken
    next is =>
      obtain ⟨-, rfl⟩ := Prod.mk.inj is
      exact woken.trans (.ite (fun _ => (State.place_logged (woken.quiet quiet) _).inFrame) fun _ => .refl _ _)

theorem InFrame.completeDebounce {q : Bool} (quiet : s.busQuiet) (i : Fin 8) : InFrame q s (s.completeDebounce i) := by
  unfold State.completeDebounce
  have set : InFrame q s (s.setInput i ⟨(s.inputs.get i).raw, (s.inputs.get i).raw, none⟩) := {}
  exact .ite (fun _ => set.trans (.handOn (set.quiet quiet) i _)) fun _ => set

theorem InFrame.completeReached {q : Bool} (inputs : List (Fin 8)) : ∀ {s : State}, s.busQuiet → InFrame q s (s.completeReached inputs) := by
  induction inputs with
  | nil => exact fun {s} _ => .refl q s
  | cons i rest ih =>
    intro s quiet
    have first : InFrame q s (if s.config.debounce ≤ ((s.inputs.get i).timer.getD 0) ∧ (s.inputs.get i).timer.isSome then
        s.completeDebounce i else s) := .ite (fun _ => .completeDebounce quiet i) fun _ => .refl _ s
    exact first.andThen (ih (first.quiet quiet))

theorem InFrame.installConsole {q : Bool} (quiet : s.busQuiet) : InFrame q s s.installConsole := by
  have taken : InFrame q s { s with idle := s.idle.install s.idleTime, choices := s.choices + 1 } := {}
  exact taken.trans (.completeReached _ (taken.quiet quiet))

theorem InFrame.installConfig (quiet : s.busQuiet) (live : s.regs.device ≠ .halted) (was : Configuration) :
    InFrame false s (s.installConfig was) := by
  have chans : InFrame false s (s.eachChan fun c t => t.installChan c (was.chans.get c) (t.chanConfig c)) :=
    .eachChan quiet live fun c u quiet live => .installChan quiet live _ _
  unfold State.installConfig
  generalize (s.eachChan fun c t => t.installChan c (was.chans.get c) (t.chanConfig c)) = u at chans
  have blinks : InFrame false s (u.andThen fun t => { t with feedback := t.feedback.install t.config.period t.config.onCount }) :=
    chans.andThen {}
  exact blinks.andThen (.installConsole (blinks.quiet quiet))

/-! ### An install -/

theorem InFrame.installReport {q : Bool} (quiet : s.busQuiet) (l : Loader) (c : Chan) : InFrame q s (s.installReport l c) := by
  unfold State.installReport
  split
  · exact .refl q s
  · unfold State.reportDisarm
    split
    · exact .refl q s
    · exact (Calm.record quiet c _ _).inFrame

theorem InFrame.swap {q : Bool} (l : Loader) : InFrame q s (s.swap l) := by
  obtain ⟨m, f, o, is⟩ := s.swap_eq l
  rw [is]
  exact {}

/-- The end of an install. -/
theorem InFrame.installShown {q : Bool} (quiet : s.busQuiet) (o : LoadOutcome) :
    InFrame q s ((s.setOutcome o).writeStatus.2.andThen fun u => u.onRegs fun g => { g with causes := { g.causes with load := true } }) := by
  have set : InFrame q s (s.setOutcome o) := {}
  rw [State.writeStatus_quiet (set.quiet quiet)]
  generalize statusImage (s.setOutcome o) = image
  have written : InFrame q s ((s.setOutcome o).writeArea 0x40 image) := {}
  exact written.andThen {}

theorem InFrame.install (quiet : s.busQuiet) (live : s.regs.device ≠ .halted) (start : Bool) : InFrame false s (s.install start) := by
  unfold State.install
  refine .ite (fun _ => .refl _ s) fun _ => ?_
  dsimp only
  generalize s.loader.installAll s.beam.frame = l
  have reports : InFrame false s (s.eachChan (State.installReport l)) :=
    .eachChan quiet live fun c u quiet _ => .installReport quiet l c
  generalize s.eachChan (State.installReport l) = u at reports
  have swapped : InFrame false s (u.andThen fun t => ((t.installDisarm l .a).installDisarm l .b).swapTables l) :=
    reports.andThen (.swap l)
  generalize (u.andThen fun t => ((t.installDisarm l .a).installDisarm l .b).swapTables l) = v at swapped
  have locks : InFrame false s (v.andThen fun t => if start then t.startLocks else t) :=
    swapped.andThen (.ite (fun _ => {}) fun _ => .refl _ v)
  generalize (v.andThen fun t => if start then t.startLocks else t) = w at locks
  have configured : InFrame false s (w.andThen fun t => if l.outcome.installed.config then t.installConfig s.config else t) :=
    locks.andThen (.ite (fun _ => .installConfig (locks.quiet quiet) (locks.live live) _) fun _ => .refl _ w)
  generalize (w.andThen fun t => if l.outcome.installed.config then t.installConfig s.config else t) = x at configured
  exact configured.andThen (.installShown (configured.quiet quiet) l.outcome)

/-! ### What follows the installs -/

theorem State.waitingTables_none {l : Quad Load} (none : ∀ i, (l.get i).waitingRevision = none) : waitingTables l = [] := by
  unfold waitingTables
  rw [List.filterMap_eq_nil_iff]
  intro i _
  have idle := none i
  cases load : l.get i with
  | idle => rfl
  | reading r got => rfl
  | waiting r d n =>
    rw [load] at idle
    exact absurd idle nofun

/-- With no table WAITING there is nothing to install. -/
theorem State.install_none {s : State} (none : ∀ i, (s.loader.loads.get i).waitingRevision = none) (start : Bool) :
    s.install start = s := by
  unfold State.install
  rw [State.waitingTables_none none]
  rfl

theorem InFrame.lookRunning {q : Bool} (quiet : s.busQuiet) (t : TableId) : InFrame q s (s.lookRunning t) := by
  by_cases idle : s.loader.loads.get t = .idle
  · rw [State.lookRunning_idle quiet idle]
    exact .ite (fun _ => {}) fun _ => .refl q s
  · rw [State.lookRunning_busy idle]
    exact .refl q s

/-- The four looks, one after another. -/
theorem InFrame.lookAll {q : Bool} (quiet : s.busQuiet) (live : s.regs.device ≠ .halted) :
    s.lookAll State.lookRunning = (((s.lookRunning .config).lookRunning .group).lookRunning .view).lookRunning .menu ∧
      InFrame q s (s.lookAll State.lookRunning) := by
  have one : InFrame q s (s.lookRunning .config) := .lookRunning quiet .config
  have two := one.trans (.lookRunning (one.quiet quiet) .group)
  have three := two.trans (.lookRunning (two.quiet quiet) .view)
  have four := three.trans (.lookRunning (three.quiet quiet) .menu)
  have all : s.lookAll State.lookRunning = (((s.lookRunning .config).lookRunning .group).lookRunning .view).lookRunning .menu := by
    rw [State.lookAll, State.andThen_live _ (one.live live), State.andThen_live _ (two.live live),
      State.andThen_live _ (three.live live)]
  exact ⟨all, by rw [all]; exact four⟩

theorem InFrame.complete {q : Bool} (quiet : s.busQuiet) (o : ReqOutcome) : InFrame q s (s.complete o) := by
  have told : InFrame q s (s.completed o) := {}
  rw [State.complete_quiet quiet]
  generalize s.completed o = u at told
  generalize statusImage u = image
  have written : InFrame q u (u.writeArea 0x40 image) := {}
  exact (told.trans written).trans {}

theorem InFrame.takeCell {q : Bool} (quiet : s.busQuiet) (code : BitVec 8) (r : RequestArgs) :
    InFrame q s (s.takeCell code r) := by
  unfold State.takeCell
  refine .ite (fun _ => .refl q s) fun _ => ?_
  let d : State := { s with requests := { s.requests with lastTaken := r.seq } }
  have taken : InFrame q s d := {}
  have decided := taken.trans (Calm.dispatch (s := d) quiet code r).inFrame
  exact decided.andThen (.complete (decided.quiet quiet) _)

end

end Sys2Proof.Machine

/-! The start of a frame. -/

namespace Sys2Proof.Machine

/-! ### The frame before -/

/-- A frame end with all that it owes. -/
theorem State.ended_atRest {v : State} (quiet : v.busQuiet) (running : v.regs.device = .running) (active : v.work.active = true) :
    AtRest v v.finishFrame.settleAll := by
  have live : v.regs.device ≠ .halted := by rw [running]; nofun
  by_cases done : v.frameDone = true
  · have ended := State.finishFrame_finished quiet live
    have still : v.finishFrame.frameQuiet := by
      refine ⟨?_, ended.asks.trans (State.frameDone_asks done)⟩
      rw [State.finishFrame_quiet quiet live, if_pos done]
    rw [State.settleAll_quiet still]
    exact ⟨ended.beam, ended.device, ended.busFault.trans quiet, still, ended.loader, fun c => by rw [ended.chan]; exact {}⟩
  · rw [State.finishFrame_quiet quiet live, if_neg done]
    exact State.settleAll_atRest quiet running active

/-- What a FRAME START finds once an OPEN frame is closed: the part is RUNNING and owes nothing, the frame number stands, and so does
each scheduled echo. -/
structure ClosedFor (s t : State) : Prop where
  device : t.regs.device = .running
  quiet : t.busQuiet
  still : t.frameQuiet
  loader : t.loader = s.loader
  frame : t.beam.frame = s.beam.frame
  overLong : t.beam.overLong = if s.beam.isOpen then decide (s.beam.clock = 16777215) else s.beam.overLong
  echo : ∀ c n, (s.chan c).echo = .scheduled n → (t.chan c).echo = .scheduled n

/-- An echo that is scheduled does not lapse at the close. -/
theorem State.echo_atWork {s : State} {c : Chan} {n : Nat} (scheduled : (s.chan c).echo = .scheduled n) :
    (s.atWork.chan c).echo = .scheduled n := by
  rw [State.chan_atWork, Channel.lapseDue]
  dsimp only
  rw [scheduled]

theorem State.closeWhole_closed {s : State} (running : s.regs.device = .running) (still : s.frameQuiet) (quiet : s.busQuiet)
    (isOpen : s.beam.isOpen = true) :
    ClosedFor s s.closeWhole ∧ ∃ ended, exec .frameEnd s = .next ended ∧ s.closeWhole = ended.settleAll := by
  obtain ⟨v, ends, both, device⟩ := exec_frameEnd still quiet running isOpen
  have live : v.regs.device ≠ .halted := by rw [device]; nofun
  have handled := State.settled_note still State.frameOpen State.closeFrame id
  rw [s.frameOpen_iff.mpr ⟨running, isOpen⟩, if_pos rfl] at handled
  have closes : s.closeFrame = v.finishFrame := Host.Outcome.next.inj ((congrArg Host.Outcome.next handled).symm.trans ends)
  have ended := State.finishFrame_finished both.quiet live
  have whole : s.closeWhole = v.finishFrame.settleAll := by
    rw [State.closeWhole, closes]
    exact State.andThen_live _ (by rw [ended.device]; exact live)
  have rest := State.ended_atRest both.quiet device (both.active.trans (by rw [State.atWork_eq]))
  have beam : s.closeWhole.beam = s.atWork.beam := by rw [whole, rest.beam, both.beam]
  refine ⟨⟨?_, ?_, ?_, ?_, ?_, ?_, fun c n scheduled => ?_⟩, v.finishFrame, ends, whole⟩
  · rw [whole, rest.device]
    exact device
  · rw [whole]
    exact rest.quiet
  · rw [whole]
    exact rest.still
  · rw [whole, rest.loader, both.loader, State.atWork_eq]
  · rw [beam, State.atWork_eq]
  · rw [beam, State.atWork_eq, isOpen]
    rfl
  · have seen : (v.chan c).echo = .scheduled n :=
      (congrArg (fun x => x.2.2.2) (both.seen c)).trans (State.echo_atWork scheduled)
    rw [whole, (rest.stays c).echo (by rw [seen]; rfl), seen]

/-- The frame before, closed where it is OPEN. -/
theorem State.closedFor {s : State} (running : s.regs.device = .running) (still : s.frameQuiet) (quiet : s.busQuiet) :
    ClosedFor s (if s.beam.isOpen then s.closeWhole else s) := by
  cases isOpen : s.beam.isOpen with
  | true => exact (State.closeWhole_closed running still quiet isOpen).1
  | false => exact ⟨running, quiet, still, rfl, rfl, by rw [isOpen]; rfl, fun _ _ => id⟩

/-! ### The frame opened -/

theorem Channel.opened_of_echo (x : Channel) : x.opened = { x with
    strikes := 0, results := [], measured := false
    echo := match x.echo with | .scheduled n => .due n | .due n => .due n | .none => .none } := by
  cases echo : x.echo with
  | none => simp [Channel.opened, Channel.echoFallsDue, echo]
  | scheduled n => simp [Channel.opened, Channel.echoFallsDue, echo]
  | due n => simp [Channel.opened, Channel.echoFallsDue, echo]

/-- What follows the installs. -/
theorem InFrame.afterInstalls {q : Bool} {s : State} (quiet : s.busQuiet) (live : s.regs.device ≠ .halted) (still : s.frameQuiet) :
    ∃ sampled, exec .attentionWrite (s.chooseBoth.lookAll State.lookRunning) = .next sampled ∧ s.afterInstalls = sampled.drain ∧
      InFrame q s s.afterInstalls := by
  have chosen : InFrame q s s.chooseBoth := {}
  have looks := chosen.trans (InFrame.lookAll (chosen.quiet quiet) (chosen.live live)).2
  unfold State.afterInstalls
  generalize s.chooseBoth.lookAll State.lookRunning = u at looks
  have live' := looks.live live
  have samples : u.sample = u.takeCell u.readCell.1 u.readCell.2 := by rw [State.sample, State.access_quiet (looks.quiet quiet)]
  have sampled := looks.trans (InFrame.takeCell (looks.quiet quiet) u.readCell.1 u.readCell.2)
  refine ⟨u.sample, ?_, ?_, ?_⟩
  · rw [samples]
    exact congrArg Host.Outcome.next (State.attention_quiet live' (looks.quiet quiet) (looks.still still))
  · rw [State.andThen_live _ live', samples]
    exact State.andThen_live _ (sampled.live live)
  · rw [State.andThen_live _ live', samples]
    exact sampled.andThen (State.drain_logged (sampled.quiet quiet)).inFrame

/-- Settles O14: the work of the start in its order, through which the frame opened stands. -/
theorem frameStartOpensFrame : Obligations.FrameStartOpensFrame := by
  unfold Obligations.FrameStartOpensFrame
  intro s
  refine ⟨fun running still quiet => ?_, fun ignored => ?_⟩
  · have closed := State.closedFor running still quiet
    have open_ : s.beam.isOpen = true → ∃ ended, exec .frameEnd s = .next ended ∧
        (if s.beam.isOpen then s.closeWhole else s) = ended.settleAll := fun isOpen => by
      rw [if_pos isOpen]
      exact (State.closeWhole_closed running still quiet isOpen).2
    have shut : s.beam.isOpen = false → (if s.beam.isOpen then s.closeWhole else s) = s := fun isOpen => by
      rw [isOpen]
      rfl
    have starts : exec .frameStart s = .next ((((if s.beam.isOpen then s.closeWhole else s).andThen State.openFrame).andThen fun t =>
        t.install false).andThen State.afterInstalls) := by
      refine congrArg Host.Outcome.next ?_
      rw [running, State.settleAll_quiet still]
      exact State.andThen_live _ (by rw [running]; nofun)
    generalize (if s.beam.isOpen then s.closeWhole else s) = u at closed open_ shut starts
    have live : u.openFrame.regs.device ≠ .halted := by
      rw [show u.openFrame.regs = u.regs from rfl, closed.device]
      nofun
    have installed : InFrame false u.openFrame (u.openFrame.install false) := .install (s := u.openFrame) closed.quiet live false
    obtain ⟨sampled, attends, ends, after⟩ := InFrame.afterInstalls (q := true) (installed.quiet closed.quiet) (installed.live live)
      (installed.still closed.still)
    have looks := (InFrame.lookAll (q := true) (s := (u.openFrame.install false).chooseBoth) (installed.quiet closed.quiet)
      (installed.live live)).1
    have live_u : u.regs.device ≠ .halted := live
    rw [State.andThen_live _ live_u, State.andThen_live _ live, State.andThen_live _ (installed.live live), ends] at starts
    rw [ends] at after
    have bare : ∀ c, (u.openFrame.chan c).bare := fun c => by
      rw [State.chan_openFrame, Channel.opened_of_echo]
      exact ⟨rfl, rfl, rfl⟩
    have beam : sampled.drain.beam = u.beam.opened := after.beam.trans installed.beam
    refine ⟨_, starts, after.device.trans (installed.device.trans closed.device), ?_, fun c => after.bare c (installed.bare c (bare c)),
      fun none c n scheduled => ?_, u, u.openFrame, _, sampled, shut, open_, ?_, fun c => ?_, looks, attends, rfl⟩
    · rw [beam, Beam.opened, closed.frame, closed.overLong]
    · have due : (u.openFrame.chan c).echo = .due n := by
        rw [State.chan_openFrame, Channel.opened_of_echo, closed.echo c n scheduled]
      rw [State.install_none (s := u.openFrame)] at after
      · rw [after.echo rfl c (by rw [due]; rfl), due]
      · rw [show u.openFrame.loader = s.loader from closed.loader]
        exact none
    · rw [beam]
      rfl
    · refine (State.chan_openFrame u c).trans ((Channel.opened_of_echo _).trans ?_)
      cases (u.chan c).echo with
      | none => rfl
      | scheduled n => rfl
      | due n => rfl
  · refine congrArg Host.Outcome.next ?_
    obtain stopped | halted := ignored
    · rw [stopped]
    · rw [halted]

end Sys2Proof.Machine

/-! An install: a channel's part, and the tables put in use. -/

namespace Sys2Proof.Machine

/-! ### A channel at an install of the configuration -/

theorem Within.trans {s t u : State} {c : Chan} {y z : Channel} {k m : List Claim} (h : Within c s t y k) (h' : Within c t u z m) :
    Within c s u z m := by
  obtain ⟨e, mem, l, cause, lost, rfl, wf⟩ := h
  obtain ⟨e', mem', l', cause', lost', rfl, wf'⟩ := h'
  exact ⟨e', mem', l', cause', lost', by cases c <;> rfl, wf' ∘ wf⟩

/-- A channel whose fields of the working delay become those of a configuration (R35). -/
def Channel.withDelay (x : Channel) (cc : ChannelConfig) : Channel := if x.delayFieldsDiffer cc then x.computeDelay cc else x

theorem Channel.withDelay_eq (x : Channel) (cc : ChannelConfig) : x.withDelay cc = { x with
    cableClass := some cc.cableClass
    delayOverride := some cc.delayOverride
    delay := if x.cableClass = some cc.cableClass ∧ x.delayOverride = some cc.delayOverride then x.delay else configuredDelay cc } := by
  unfold Channel.withDelay
  have differ : x.delayFieldsDiffer cc = true ↔ ¬(x.cableClass = some cc.cableClass ∧ x.delayOverride = some cc.delayOverride) := by
    rw [Channel.delayFieldsDiffer, Bool.or_eq_true, bne_iff_ne, bne_iff_ne, not_and_or]
  by_cases same : x.cableClass = some cc.cableClass ∧ x.delayOverride = some cc.delayOverride
  · rw [if_neg fun h => differ.mp h same, if_pos same, ← same.1, ← same.2]
  · rw [if_pos (differ.mpr same), if_neg same]
    rfl

section
variable {s : State} {c : Chan}

/-- The work of an install on a channel before its working delay. -/
def State.reconfigure (s : State) (c : Chan) (was now : ChannelConfig) : State :=
  if (s.chan c).mode = .off then
    if now.enable then (s.onChan c fun x => x.enableWith now).chooseNow c else s
  else if now.enable then s.changeFields c was now
  else s.disableChan c

theorem State.installChan_eq {was now : ChannelConfig} (live : (s.reconfigure c was now).regs.device ≠ .halted) :
    s.installChan c was now = (s.reconfigure c was now).onChan c fun x => x.withDelay now := by
  refine (State.andThen_live (s := s.reconfigure c was now) _ live).trans ?_
  generalize s.reconfigure c was now = u
  by_cases differ : (u.chan c).delayFieldsDiffer now = true
  · rw [if_pos differ, State.onChan, State.onChan, Channel.withDelay, if_pos differ]
  · rw [if_neg differ, State.onChan, Channel.withDelay, if_neg differ, State.setChan_self]

theorem State.glareEnds_within (quiet : s.busQuiet) (live : s.regs.device ≠ .halted) : ∃ y k, Within c s (s.glareEnds c) y k := by
  have recorded := (Within.refl s c).record quiet {} (.glareEnd (s.chan c).glareFrames (s.chan c).reminders)
  have watches := recorded.onChan fun x => { x with mode := .watch, table := [], pendingStrikes := [] }
  exact ⟨_, _, Within.andThen (Within.andThen recorded live watches) live
    ((Within.andThen recorded live watches).chooseNow c)⟩

theorem State.changeEdge_within (quiet : s.busQuiet) (live : s.regs.device ≠ .halted) (e : Edge) :
    ∃ y k, Within c s (s.changeEdge c e) y k := by
  have start := Within.refl s c
  unfold State.changeEdge
  split
  · exact ⟨_, _, start.onChan _⟩
  · have stopped := start.onChan fun x => { x with glareTimer := none }
    dsimp only
    split
    · obtain ⟨y, k, ended⟩ := State.glareEnds_within (s := s.onChan c fun x => { x with glareTimer := none }) (c := c) quiet live
      exact ⟨y, k, stopped.trans ended⟩
    · exact ⟨_, _, stopped⟩

/-- The changed fields of a channel that stays enabled reach that channel alone. -/
theorem State.changeFields_within (quiet : s.busQuiet) (live : s.regs.device ≠ .halted) (was now : ChannelConfig) :
    ∃ y k, Within c s (s.changeFields c was now) y k := by
  have start := Within.refl s c
  have history : ∃ y k, Within c s (if was.m = now.m ∧ was.k = now.k then s else s.changeHistory c) y k := by
    split
    · exact ⟨_, _, start⟩
    · exact ⟨_, _, (start.onChan fun x => { x with table := [] }).chooseNow c⟩
  unfold State.changeFields
  generalize (if was.m = now.m ∧ was.k = now.k then s else s.changeHistory c) = u at history
  obtain ⟨y, k, history⟩ := history
  have edge : ∃ y k, Within c s (u.andThen fun t => if was.edge = now.edge then t else t.changeEdge c now.edge) y k := by
    rw [State.andThen_live _ (history.live live)]
    split
    · exact ⟨y, k, history⟩
    · obtain ⟨z, m, changed⟩ := State.changeEdge_within (c := c) (history.quiet quiet) (history.live live) now.edge
      exact ⟨z, m, history.trans changed⟩
  generalize (u.andThen fun t => if was.edge = now.edge then t else t.changeEdge c now.edge) = v at edge
  obtain ⟨z, m, edge⟩ := edge
  rw [State.andThen_live _ (edge.live live)]
  split
  · exact ⟨z, m, edge⟩
  · unfold State.changeThreshold
    split
    · exact ⟨_, _, edge.trans (State.glareBegins_within c (edge.quiet quiet) (edge.live live))⟩
    · exact ⟨z, m, edge⟩

/-- Where no field changes that a channel must meet, it stays as it is. -/
theorem State.changeFields_same {was now : ChannelConfig} (m : was.m = now.m) (k : was.k = now.k) (edge : was.edge = now.edge)
    (threshold : was.glareThreshold = now.glareThreshold) (live : s.regs.device ≠ .halted) : s.changeFields c was now = s := by
  unfold State.changeFields
  rw [if_pos ⟨m, k⟩, State.andThen_live _ live, if_pos edge, State.andThen_live _ live, if_pos threshold]

theorem State.reconfigure_within (quiet : s.busQuiet) (live : s.regs.device ≠ .halted) (was now : ChannelConfig) :
    ∃ y k, Within c s (s.reconfigure c was now) y k := by
  have start := Within.refl s c
  unfold State.reconfigure
  split
  · split
    · exact ⟨_, _, (start.onChan fun x => x.enableWith now).chooseNow c⟩
    · exact ⟨_, _, start⟩
  · split
    · exact State.changeFields_within quiet live was now
    · exact ⟨_, _, State.disableChan_within quiet live⟩

/-- A channel disabled has no highlight entry. -/
theorem State.entry_disableChan (quiet : s.busQuiet) (live : s.regs.device ≠ .halted) : (s.disableChan c).feedback.entry.get c = none := by
  obtain ⟨w, left, is⟩ := State.disableChan_eq (c := c) quiet live
  have off : ((w.onChan c Channel.switchOff).chan c).mode = .off := by
    rw [State.chan_onChan]
    rfl
  rw [is, State.chooseNow, State.entry_choose]
  generalize w.onChan c Channel.switchOff = u at off
  rw [State.highlightEntry, off]
  exact if_neg (by simp)

/-- An install of the configuration in one channel, by what it is and what it becomes. -/
theorem State.installChan_cases (quiet : s.busQuiet) (live : s.regs.device ≠ .halted) (was now : ChannelConfig) :
    let t := s.installChan c was now
    t.chan (otherChan c) = s.chan (otherChan c) ∧ t.feedback = (s.reconfigure c was now).feedback ∧
      t.claims = (s.reconfigure c was now).claims ∧ t.chan c = ((s.reconfigure c was now).chan c).withDelay now := by
  obtain ⟨y, k, changed⟩ := State.reconfigure_within (c := c) quiet live was now
  intro t
  have is : t = _ := State.installChan_eq (changed.live live)
  rw [is]
  exact ⟨(State.chan_onChan_other _ _ _).trans changed.other, rfl, rfl, State.chan_onChan _ _ _⟩

theorem State.reconfigure_enables {was now : ChannelConfig} (off : (s.chan c).mode = .off) (on : now.enable = true) :
    s.reconfigure c was now = (s.onChan c fun x => x.enableWith now).chooseNow c := by rw [State.reconfigure, if_pos off, if_pos on]

theorem State.reconfigure_off {was now : ChannelConfig} (off : (s.chan c).mode = .off) (no : now.enable = false) :
    s.reconfigure c was now = s := by rw [State.reconfigure, if_pos off, no, if_neg Bool.false_ne_true]

theorem State.reconfigure_on {was now : ChannelConfig} (on : (s.chan c).mode ≠ .off) (enabled : now.enable = true) :
    s.reconfigure c was now = s.changeFields c was now := by rw [State.reconfigure, if_neg on, if_pos enabled]

theorem State.reconfigure_disables {was now : ChannelConfig} (on : (s.chan c).mode ≠ .off) (no : now.enable = false) :
    s.reconfigure c was now = s.disableChan c := by rw [State.reconfigure, if_neg on, no, if_neg Bool.false_ne_true]

/-- An enabled channel has the delay that its fields give. -/
theorem Channel.withDelay_enableWith (x : Channel) (cc : ChannelConfig) : (x.enableWith cc).withDelay cc = x.enableWith cc := by
  refine if_neg ?_
  simp [Channel.delayFieldsDiffer, Channel.enableWith, Channel.computeDelay]

end

/-! ### The tables put in use -/

theorem Load.of_waitingRevision {x : Load} (none : x.waitingRevision = none) : x = .idle ∨ ∃ r got, x = .reading r got := by
  cases x with
  | idle => exact .inl rfl
  | reading r got => exact .inr ⟨r, got, rfl⟩
  | waiting r d n => exact absurd none nofun

theorem waitingTables_menu {l : Quad Load} {r : Word} {d : TableData} {n : Nat} (menu : l.menu = .waiting r d n)
    (others : ∀ i, i ≠ .menu → (l.get i).waitingRevision = none) : waitingTables l = [(.menu, r, d, n)] := by
  obtain ⟨config, group, view, m⟩ := l
  obtain rfl : m = _ := menu
  obtain rfl | ⟨_, _, rfl⟩ := Load.of_waitingRevision (x := config) (others .config nofun)
  all_goals obtain rfl | ⟨_, _, rfl⟩ := Load.of_waitingRevision (x := group) (others .group nofun)
  all_goals obtain rfl | ⟨_, _, rfl⟩ := Load.of_waitingRevision (x := view) (others .view nofun)
  all_goals rfl

/-- The install's work on the Table Loader where the menu table alone waits. -/
theorem Loader.installAll_menu {l : Loader} {r : Word} {ms : List Sheet} {n : Nat} (frame : Nat) (menu : l.loads.menu = .waiting r (.menu ms) n)
    (others : ∀ i, i ≠ .menu → (l.loads.get i).waitingRevision = none) : l.installAll frame =
      { tables := { l.tables with sheets := ms }
        revisions := { l.revisions with menu := some r }
        loads := { l.loads with menu := .idle }
        outcome := ⟨frame, ⟨false, false, false, true⟩,
          ⟨l.revisions.config.getD 0, l.revisions.group.getD 0, l.revisions.view.getD 0, r⟩, ⟨0, 0, 0, n⟩⟩ } := by
  unfold Loader.installAll
  rw [waitingTables_menu menu others]
  rfl

/-! ### An install that disarms no button -/

section
variable {s : State}

theorem State.installReport_unarmed {c : Chan} (l : Loader) (unarmed : (s.menu c).armed = none) : s.installReport l c = s := by
  unfold State.installReport
  split
  · rfl
  · rw [State.reportDisarm, unarmed]

theorem State.installDisarm_unarmed {c : Chan} (l : Loader) (unarmed : (s.menu c).armed = none) : s.installDisarm l c = s := by
  unfold State.installDisarm
  split
  · rfl
  · exact State.clearArmed_unarmed unarmed

/-- The state in which the tables are in use and no block has taken them yet. -/
def State.swapped (s : State) (n : Nat) (start : Bool) : State :=
  let t := ({ s with choices := n } : State).swapTables (s.loader.installAll s.beam.frame)
  if start then t.startLocks else t

/-- The end of an install. -/
def State.shown (s : State) (o : LoadOutcome) : State :=
  ((s.setOutcome o).writeArea 0x40 (statusImage (s.setOutcome o))).onRegs fun g => { g with causes := { g.causes with load := true } }

/-- An install that disarms no button. -/
theorem State.install_unarmed (quiet : s.busQuiet) (live : s.regs.device ≠ .halted) (some : waitingTables s.loader.loads ≠ [])
    (unarmed : ∀ c, (s.menu c).armed = none) (start : Bool) :
    ∃ n, s.install start =
      (if (s.loader.installAll s.beam.frame).outcome.installed.config then (s.swapped n start).installConfig s.config
        else s.swapped n start).shown (s.loader.installAll s.beam.frame).outcome := by
  unfold State.install
  rw [if_neg (by rwa [List.isEmpty_iff])]
  dsimp only
  unfold State.swapped
  generalize s.loader.installAll s.beam.frame = l
  obtain ⟨d, n, order⟩ := s.eachChan_order (State.installReport l)
  let u : State := { s with choices := n }
  have reports : s.eachChan (State.installReport l) = { s with choices := n } := by
    rw [order, State.installReport_unarmed (s := u) l (unarmed d), State.andThen_live (s := u) _ live,
      State.installReport_unarmed (s := u) l (unarmed _)]
  refine ⟨n, ?_⟩
  have swaps : ((u.installDisarm l .a).installDisarm l .b).swapTables l = u.swapTables l := by
    rw [State.installDisarm_unarmed (s := u) l (unarmed .a), State.installDisarm_unarmed (s := u) l (unarmed .b)]
  rw [reports, State.andThen_live (s := u) _ live, swaps, State.andThen_live (s := u.swapTables l) _ live]
  have locks : InFrame false s (if start then (u.swapTables l).startLocks else u.swapTables l) := .ite (fun _ => {}) fun _ => {}
  generalize (if start then (u.swapTables l).startLocks else u.swapTables l) = v at locks ⊢
  rw [State.andThen_live _ (locks.live live)]
  have configured : InFrame false s (if l.outcome.installed.config then v.installConfig s.config else v) :=
    .ite (fun _ => locks.trans (.installConfig (locks.quiet quiet) (locks.live live) _)) fun _ => locks
  generalize (if l.outcome.installed.config then v.installConfig s.config else v) = w at configured ⊢
  rw [State.andThen_live _ (configured.live live), State.writeStatus_quiet (s := w.setOutcome l.outcome) (configured.quiet quiet)]
  exact State.andThen_live _ (configured.live live)

/-! ### An install of the menu table -/

/-- A channel's menu as an install of the menu table alone leaves it (R120). -/
theorem State.installMenu_menu (l : Loader) (c : Chan) (menu : l.outcome.installed.menu = true) (config : l.outcome.installed.config = false) :
    let home := homeInUse (l.tables.config.getD defaultConfiguration) l.tables c
    s.installMenu l c = { s.menu c with
      home := home
      stack := if home = (s.menu c).home then (s.menu c).stack.takeWhile (fun x => decide (x < l.tables.sheets.length)) else [home]
      toggles := initialToggles l.tables.sheets
      choices := initialChoices l.tables.sheets } := by
  intro home
  have enables : s.enables l c = false := by rw [State.enables, config, Bool.false_and, Bool.false_and]
  unfold State.installMenu
  rw [menu, enables]
  change ((s.menu c).afterTable l.tables.sheets).withHome home = _
  unfold Menu.withHome
  rw [show ((s.menu c).afterTable l.tables.sheets).home = (s.menu c).home from rfl]
  by_cases same : home = (s.menu c).home
  · rw [if_pos same, if_pos same.symm]
    unfold Menu.afterTable
    rw [same]
  · rw [if_neg same, if_neg fun h => same h.symm]
    rfl

/-- An install of the menu table alone, with no button armed. -/
theorem State.install_menu (quiet : s.busQuiet) (live : s.regs.device ≠ .halted) {r : Word} {ms : List Sheet} {n : Nat}
    (menu : s.loader.loads.menu = .waiting r (.menu ms) n) (others : ∀ i, i ≠ .menu → (s.loader.loads.get i).waitingRevision = none)
    (unarmed : ∀ c, (s.menu c).armed = none) :
    ∃ k, s.install false = (({ s with choices := k } : State).swapTables (s.loader.installAll s.beam.frame)).shown
      (s.loader.installAll s.beam.frame).outcome := by
  obtain ⟨k, installs⟩ := State.install_unarmed quiet live (by rw [waitingTables_menu menu others]; exact List.cons_ne_nil _ _) unarmed false
  refine ⟨k, installs.trans ?_⟩
  rw [if_neg (by rw [Loader.installAll_menu _ menu others]; exact Bool.false_ne_true)]
  rfl

theorem State.shown_unheard (u : State) (o : LoadOutcome) : sameExcept u (u.shown o) [u.statusRange] := by
  have written := (u.setOutcome o).unheard_status.memory
  unfold State.shown
  generalize statusImage (u.setOutcome o) = image at written ⊢
  exact written

end

end Sys2Proof.Machine

/-! The start of the part. -/

namespace Sys2Proof.Machine

/-! ### Looks that begin no read, and looks that may -/

theorem State.lookLoading_current {s : State} {t : TableId} (quiet : s.busQuiet)
    (current : (s.loader.loads.get t).waitingRevision = some (s.revisionWord t)) : s.lookLoading t = s := by
  cases load : s.loader.loads.get t with
  | idle =>
    rw [load] at current
    exact absurd current nofun
  | reading r got =>
    rw [load] at current
    exact absurd current nofun
  | waiting r d n =>
    rw [load] at current
    unfold State.lookLoading
    rw [load]
    dsimp only
    rw [State.access_quiet quiet]
    exact if_neg fun h => h.2 current

/-- In LOADING a FRAME START that finds all four copies current is the start. -/
theorem State.frameStart_loading {s : State} (loading : s.regs.device = .loading) (quiet : s.busQuiet)
    (all : s.loader.allWaiting = true) (current : ∀ t, (s.loader.loads.get t).waitingRevision = some (s.revisionWord t)) :
    exec .frameStart s = .next s.start := by
  have looked := fun t => State.lookLoading_current quiet (current t)
  have live : s.regs.device ≠ .halted := by rw [loading]; nofun
  refine congrArg Host.Outcome.next ?_
  rw [loading]
  change (s.lookAll State.lookLoading).andThen _ = s.start
  rw [State.lookAll, looked, State.andThen_live _ live, looked, State.andThen_live _ live, looked, State.andThen_live _ live, looked,
    State.andThen_live _ live, if_pos all]

/-- A look reaches the loads of the Table Loader alone. -/
theorem State.lookRunning_loads {s : State} (quiet : s.busQuiet) (t : TableId) :
    ∃ q, s.lookRunning t = { s with loader := { s.loader with loads := q } } := by
  by_cases idle : s.loader.loads.get t = .idle
  · rw [State.lookRunning_idle quiet idle]
    split
    · exact ⟨_, rfl⟩
    · exact ⟨s.loader.loads, rfl⟩
  · exact ⟨s.loader.loads, State.lookRunning_busy idle⟩

theorem State.lookAll_loads {s : State} (quiet : s.busQuiet) (live : s.regs.device ≠ .halted) :
    ∃ q, s.lookAll State.lookRunning = { s with loader := { s.loader with loads := q } } := by
  rw [(InFrame.lookAll (q := true) quiet live).1]
  obtain ⟨q1, one⟩ := State.lookRunning_loads quiet .config
  obtain ⟨q2, two⟩ := State.lookRunning_loads (s := { s with loader := { s.loader with loads := q1 } }) quiet .group
  obtain ⟨q3, three⟩ := State.lookRunning_loads (s := { s with loader := { s.loader with loads := q2 } }) quiet .view
  obtain ⟨q4, four⟩ := State.lookRunning_loads (s := { s with loader := { s.loader with loads := q3 } }) quiet .menu
  refine ⟨q4, ?_⟩
  rw [one, two, three, four]

/-- With no request in the cell and nothing held, what follows the installs reaches the highlights and the reads alone. -/
theorem State.afterInstalls_idle {s : State} (quiet : s.busQuiet) (live : s.regs.device ≠ .halted)
    (cell : Memory.read s.mem (s.area 0x20) = 0) (held : s.log.held = []) :
    ∃ f q, s.afterInstalls = { s with feedback := f, loader := { s.loader with loads := q } } := by
  obtain ⟨q, looks⟩ := State.lookAll_loads (s := s.chooseBoth) quiet live
  let u : State := { s.chooseBoth with loader := { s.loader with loads := q } }
  have looks : s.chooseBoth.lookAll State.lookRunning = u := looks
  have sampled : u.sample = u := by
    rw [State.sample, State.access_quiet (s := u) quiet]
    exact if_pos (.inl cell)
  have drained : u.drain = u := by
    rw [State.drain, show u.log.held = [] from held]
    rfl
  refine ⟨u.feedback, q, ?_⟩
  rw [State.afterInstalls, looks, State.andThen_live (s := u) _ live, sampled, State.andThen_live (s := u) _ live, drained]
  rfl

/-! ### The installs of the first configuration -/

section
variable {s : State}

/-- What an install makes of a channel that is OFF. -/
def Channel.configured (x : Channel) (cc : ChannelConfig) : Channel := Channel.withDelay (if cc.enable then x.enableWith cc else x) cc

theorem State.installChan_off {c : Chan} (live : s.regs.device ≠ .halted) (off : (s.chan c).mode = .off) (was now : ChannelConfig) :
    ∃ e, s.installChan c was now =
      { s.setChan c ((s.chan c).configured now) with feedback := { s.feedback with entry := e } } := by
  cases enable : now.enable with
  | true =>
    have is := State.reconfigure_enables (was := was) off enable
    rw [State.installChan_eq (by rw [is]; exact live), is]
    refine ⟨((s.onChan c fun x => x.enableWith now).chooseNow c).feedback.entry, ?_⟩
    unfold Channel.configured
    rw [if_pos enable]
    cases c with
    | a => rfl
    | b => rfl
  | false =>
    have is := State.reconfigure_off (was := was) off enable
    rw [State.installChan_eq (by rw [is]; exact live), is, State.onChan, Channel.configured, enable]
    exact ⟨s.feedback.entry, rfl⟩

theorem State.installChans_off (live : s.regs.device ≠ .halted) (off : ∀ c, (s.chan c).mode = .off) (was : Configuration) :
    ∃ k e, (s.eachChan fun c t => t.installChan c (was.chans.get c) (t.chanConfig c)) = { s with
      choices := k
      chans := ⟨(s.chan .a).configured (s.chanConfig .a), (s.chan .b).configured (s.chanConfig .b)⟩
      feedback := { s.feedback with entry := e } } := by
  obtain ⟨d, k, order⟩ := s.eachChan_order fun c t => t.installChan c (was.chans.get c) (t.chanConfig c)
  let v : State := { s with choices := k }
  obtain ⟨e, first⟩ := State.installChan_off (s := v) (c := d) live (off d) (was.chans.get d) (v.chanConfig d)
  let u : State := { v.setChan d ((v.chan d).configured (v.chanConfig d)) with feedback := { v.feedback with entry := e } }
  have same : u.chan (otherChan d) = s.chan (otherChan d) := by
    cases d with
    | a => rfl
    | b => rfl
  obtain ⟨e', second⟩ := State.installChan_off (s := u) (c := otherChan d) live (by rw [same]; exact off _) (was.chans.get (otherChan d))
    (u.chanConfig (otherChan d))
  refine ⟨k, e', ?_⟩
  rw [order]
  dsimp only
  rw [first, State.andThen_live (s := u) _ live, second, same]
  cases d with
  | a => rfl
  | b => rfl

theorem State.completeReached_untimed (live : s.regs.device ≠ .halted) (untimed : ∀ n, (s.inputs.get n).timer = none) (l : List (Fin 8)) :
    s.completeReached l = s := by
  induction l with
  | nil => rfl
  | cons i rest ih =>
    have waits : (if s.config.debounce ≤ ((s.inputs.get i).timer.getD 0) ∧ (s.inputs.get i).timer.isSome then s.completeDebounce i
        else s) = s := if_neg fun h => by simp [untimed i] at h
    rw [State.completeReached, waits, State.andThen_live _ live]
    exact ih

/-- The first configuration taken by the channels, with no debounce timer running. -/
theorem State.installConfig_off (live : s.regs.device ≠ .halted) (off : ∀ c, (s.chan c).mode = .off)
    (untimed : ∀ n, (s.inputs.get n).timer = none) (was : Configuration) :
    ∃ k f i, s.installConfig was = { s with
      choices := k, feedback := f, idle := i
      chans := ⟨(s.chan .a).configured (s.chanConfig .a), (s.chan .b).configured (s.chanConfig .b)⟩ } := by
  obtain ⟨k, e, chans⟩ := State.installChans_off live off was
  let u : State := { s with
    choices := k
    chans := ⟨(s.chan .a).configured (s.chanConfig .a), (s.chan .b).configured (s.chanConfig .b)⟩
    feedback := { s.feedback with entry := e } }
  let v : State := { u with feedback := u.feedback.install u.config.period u.config.onCount }
  let w : State := { v with idle := v.idle.install v.idleTime, choices := v.choices + 1 }
  have console : v.installConsole = w := State.completeReached_untimed (s := w) live untimed _
  refine ⟨w.choices, w.feedback, w.idle, ?_⟩
  rw [State.installConfig, show (s.eachChan fun c t => t.installChan c (was.chans.get c) (t.chanConfig c)) = u from chans,
    State.andThen_live (s := u) _ live]
  exact (State.andThen_live (s := v) _ live).trans console

/-- A channel of reset after its first configuration. -/
theorem Channel.configured_reset (cc : ChannelConfig) : (Channel.configured .reset cc).mode = (if cc.enable then .watch else .off) ∧
    (Channel.configured .reset cc).delay = configuredDelay cc := by
  unfold Channel.configured
  cases cc.enable with
  | true =>
    rw [if_pos rfl, if_pos rfl, Channel.withDelay_enableWith]
    exact ⟨rfl, rfl⟩
  | false =>
    rw [if_neg Bool.false_ne_true, if_neg Bool.false_ne_true, Channel.withDelay_eq]
    have unset : ¬(Channel.reset.cableClass = some cc.cableClass ∧ Channel.reset.delayOverride = some cc.delayOverride) :=
      fun h => nomatch h.1
    exact ⟨rfl, by dsimp only; exact if_neg unset⟩

theorem configuredDelay_default {cc : ChannelConfig} (none : cc.delayOverride = 0) (known : cc.cableClass ≤ 3) :
    configuredDelay cc = [48, 96, 160, 240].getD cc.cableClass 0 := by
  rw [configuredDelay, if_pos none]
  obtain is | is | is | is : cc.cableClass = 0 ∨ cc.cableClass = 1 ∨ cc.cableClass = 2 ∨ cc.cableClass = 3 := by omega
  all_goals rw [is]; rfl

/-- The four copies put in use. -/
theorem Loader.installAll_four {l : Loader} {cfg : Configuration} {gs : List GroupEntry} {vs : List ViewEntry} {ms : List Sheet}
    {r : Quad Word} {n : Quad Nat} (loads : l.loads = ⟨.waiting r.config (.config cfg) n.config, .waiting r.group (.group gs) n.group,
      .waiting r.view (.view vs) n.view, .waiting r.menu (.menu ms) n.menu⟩) (frame : Nat) :
    waitingTables l.loads ≠ [] ∧ (l.installAll frame).tables = ⟨some cfg, gs, vs, ms⟩ ∧
      (l.installAll frame).outcome.installed.config = true := by
  unfold Loader.installAll
  rw [loads]
  exact ⟨List.cons_ne_nil _ _, rfl, rfl⟩

/-- The start from reset values. -/
theorem State.start_reset {cfg : Configuration} {gs : List GroupEntry} {vs : List ViewEntry} {ms : List Sheet}
    {r : Quad Word} {n : Quad Nat} (quiet : s.busQuiet) (held : s.log.held = []) (chans : ∀ c, s.chan c = Channel.reset)
    (menus : ∀ c, s.menu c = Menu.reset) (loads : s.loader.loads = ⟨.waiting r.config (.config cfg) n.config,
      .waiting r.group (.group gs) n.group, .waiting r.view (.view vs) n.view, .waiting r.menu (.menu ms) n.menu⟩)
    (cell : Memory.read s.mem (s.area 0x20) = 0) (untimed : ∀ n, (s.inputs.get n).timer = none) :
    s.start.regs.device = .running ∧ s.start.beam = s.beam.opened ∧ s.start.tables = ⟨some cfg, gs, vs, ms⟩ ∧
      s.start.regs.causes.load = true ∧ (∀ c, s.start.chan c = Channel.reset.configured (cfg.chans.get c)) ∧
      s.start.locks = ⟨Vector.replicate 61 (cfg.chans.get .a).startLocked, Vector.replicate 61 (cfg.chans.get .b).startLocked⟩ ∧
      s.start.claims.entries = s.claims.entries ∧ s.start.log = s.log := by
  let u : State := (s.onRegs fun g => { g with device := .running }).openFrame
  have live : u.regs.device ≠ .halted := nofun
  obtain ⟨some, tables, config⟩ := Loader.installAll_four (l := u.loader) loads u.beam.frame
  obtain ⟨k, installs⟩ := State.install_unarmed (s := u) quiet live some (fun c => congrArg Menu.armed (menus c)) true
  rw [if_pos config] at installs
  let p := u.swapped k true
  have opened : ∀ c, p.chan c = Channel.reset := fun c => by
    have opens : p.chan c = (s.chan c).opened := State.chan_openFrame _ c
    rw [opens, chans]
    rfl
  have taken : ∀ c, p.chanConfig c = cfg.chans.get c := fun c => by
    have config : p.config = (u.loader.installAll u.beam.frame).tables.config.getD defaultConfiguration := rfl
    rw [State.chanConfig, config, tables]
    rfl
  have locks : p.locks = ⟨Vector.replicate 61 (p.chanConfig .a).startLocked, Vector.replicate 61 (p.chanConfig .b).startLocked⟩ := rfl
  obtain ⟨n', f, i, configured⟩ := State.installConfig_off (s := p) live (fun c => by rw [opened]; rfl) untimed u.config
  let q : State := { p with
    choices := n', feedback := f, idle := i
    chans := ⟨(p.chan .a).configured (p.chanConfig .a), (p.chan .b).configured (p.chanConfig .b)⟩ }
  let o := (u.loader.installAll u.beam.frame).outcome
  have cell' : Memory.read (q.shown o).mem ((q.shown o).area 0x20) = 0 :=
    (q.shown_unheard o _ fun range is => by
      obtain rfl := List.mem_singleton.mp is
      exact .inl (by simp only [State.statusRange, State.area]; change s.regs.areaBase.toNat + _ < s.regs.areaBase.toNat + _; omega)).trans
      cell
  obtain ⟨f', x, after⟩ := State.afterInstalls_idle (s := q.shown o) quiet live cell' held
  have starts : s.start = { q.shown o with feedback := f', loader := { (q.shown o).loader with loads := x } } := by
    rw [← after, State.start, installs, configured]
    exact State.andThen_live (s := q.shown o) _ live
  have chan : ∀ c, q.chan c = Channel.reset.configured (cfg.chans.get c) := fun c => by
    rw [← taken, ← opened c]
    cases c with
    | a => rfl
    | b => rfl
  rw [starts]
  rw [taken, taken] at locks
  exact ⟨rfl, rfl, tables, rfl, chan, locks, rfl, rfl⟩

end

theorem initialToggles_eq (ms : List Sheet) :
    initialToggles ms = ms.map fun sh => sh.buttons.map fun b => decide (b.kind = some .toggle) && b.initialOn := by
  unfold initialToggles
  simp only [beq_eq_decide]

/-- Settles O46: the start is an install of all four tables from reset values. -/
theorem startMakesRunning : Obligations.StartMakesRunning := by
  unfold Obligations.StartMakesRunning
  refine ⟨?_, fun s none => State.install_none none false, ?_, ?_⟩
  · intro s cfg gs vs ms n1 n2 n3 n4 loading quiet still held wf chans menus _ loads cell untimed
    have starts : exec .frameStart s = .next s.start := by
      refine State.frameStart_loading loading quiet (by rw [Loader.allWaiting, loads]; rfl) fun t => ?_
      rw [loads]
      cases t with
      | config => rfl
      | group => rfl
      | view => rfl
      | menu => rfl
    obtain ⟨device, beam, tables, load, channels, locks, claims, log⟩ := State.start_reset
      (r := ⟨s.revisionWord .config, s.revisionWord .group, s.revisionWord .view, s.revisionWord .menu⟩) (n := ⟨n1, n2, n3, n4⟩)
      quiet held chans menus loads cell untimed
    refine ⟨s.start, starts, device, ?_, ?_, ?_, tables, load, fun c => ?_, fun c g below => ?_, claims, log⟩
    · rw [beam]
      rfl
    · rw [beam]
      rfl
    · rw [beam]
      rfl
    · obtain ⟨mode, delay⟩ := Channel.configured_reset (cfg.chans.get c)
      rw [channels, delay]
      refine ⟨mode, fun override => if_neg (by omega), configuredDelay_default⟩
    · rw [State.locked, locks]
      cases c with
      | a => simp [Pair.get, below]
      | b => simp [Pair.get, below]
  · intro s r ms n running quiet menu others _ unarmed t revs
    have live : s.regs.device ≠ .halted := by rw [running]; nofun
    obtain ⟨k, installs⟩ := State.install_menu quiet live menu others unarmed
    let u : State := ({ s with choices := k } : State).swapTables (s.loader.installAll s.beam.frame)
    have is : t = u.shown (s.loader.installAll s.beam.frame).outcome := installs
    have loader := Loader.installAll_menu s.beam.frame menu others
    have shown := u.shown_unheard (s.loader.installAll s.beam.frame).outcome
    refine ⟨(congrArg State.tables is).trans (congrArg Loader.tables loader), (congrArg (fun x => x.loader.loads) is).trans
      (congrArg Loader.loads loader), (congrArg (fun x => x.loader.revisions) is).trans (congrArg Loader.revisions loader),
      (congrArg (fun x => x.loader.outcome) is).trans (congrArg Loader.outcome loader), (congrArg State.regs is).trans rfl,
      (congrArg State.chans is).trans rfl, (congrArg State.claims is).trans rfl, (congrArg State.log is).trans rfl, by rw [is]; exact shown, fun c => ?_⟩
    have put := s.installMenu_menu (s.loader.installAll s.beam.frame) c (by rw [loader]) (by rw [loader])
    have menu : t.menu c = s.installMenu (s.loader.installAll s.beam.frame) c := by
      rw [is]
      cases c with
      | a => rfl
      | b => rfl
    rw [menu, put, loader, initialToggles_eq]
    rfl
  · intro s c was now running quiet t delay taken
    have live : s.regs.device ≠ .halted := by rw [running]; nofun
    obtain ⟨other, feedback, claims, chan⟩ := State.installChan_cases (c := c) quiet live was now
    have delayed : (s.chan c).withDelay now = taken := Channel.withDelay_eq _ _
    refine ⟨other, fun off on => chan.trans ?_, fun off no => chan.trans ?_, fun on enabled m k edge threshold => chan.trans ?_,
      fun on no => ?_⟩
    · have enabled : (s.reconfigure c was now).chan c = (s.chan c).enableWith now := by
        rw [State.reconfigure_enables off on]
        exact State.chan_onChan s c fun x => x.enableWith now
      rw [enabled, Channel.withDelay_enableWith]
      unfold Channel.enableWith
      cases now.edge with
      | rising => rfl
      | falling => rfl
    · rw [State.reconfigure_off off no, delayed]
    · rw [State.reconfigure_on on enabled, State.changeFields_same m k edge threshold live, delayed]
    · have disabled := State.disableChan_within (c := c) quiet live
      have entry := State.entry_disableChan (c := c) quiet live
      rw [State.reconfigure_disables on no] at feedback claims chan
      rw [chan, feedback, claims, disabled.chan, Channel.withDelay_eq]
      exact ⟨rfl, rfl, rfl, rfl, rfl, rfl, rfl, entry, disabled.entries⟩

end Sys2Proof.Machine

end
